-- ==== Sys2Proof/Word.lean ====
section
/-! DEFINITION. The value types of the block (00_scope.md R8, R9): a byte is 8 bits, the universes are 16 bits, vectors are 32
bits, and a buffer is a finite sequence of bytes whose first element is byte 0. Every quantity is unsigned. -/

namespace Sys2Proof

/-- A byte (R8). -/
abbrev Byte := BitVec 8

/-- A 16-bit value: a universe, or a 2-byte field (R21, R69). -/
abbrev Half := BitVec 16

/-- A 32-bit value: a 4-byte vector (R69). -/
abbrev Quad := BitVec 32

/-- A finite byte sequence, byte 0 first (R9). -/
abbrev Bytes := List Byte

/-- `zeros k`: `k` bytes of 0x00 (R9). -/
abbrev zeros (k : Nat) : Bytes := List.replicate k 0#8

end Sys2Proof
end

