-- ==== Sys2Proof/Machine/Params.lean ====
section
/-! DEFINITION. The parameters the spec fixes, as one record and its one table of values: the rows of 00_scope.md R6, and the row
of R7 that D17 decides. `Config.fixed` holds the record, every rule reads it there, and an audit of a literal changes a row of the
table and no rule (R6, U16, log 20). -/

namespace Sys2Proof

/-- The fixed parameters: 00_scope.md R6 row by row, then the decided row of R7. -/
structure FixedParams where
  /-- `LEN_MAX`: the largest length the codec accepts. -/
  lenMax : Nat
  /-- `LEN_VALUE_BITS`: the bits of the length value. -/
  lenValueBits : Nat
  /-- `LEN_FIELD_BYTES`: the bytes of every length field. -/
  lenFieldBytes : Nat
  /-- `MAX_LEVELS`: most DMX levels in one DMP PDU. -/
  maxLevels : Nat
  /-- `CID_BYTES`: the exact CID size. -/
  cidBytes : Nat
  /-- `NAME_BYTES`: the width of the source-name field. -/
  nameBytes : Nat
  /-- `DMP_LEN_CONST`: the fixed-header term of the DMP length. -/
  dmpLenConst : Nat
  /-- `DMP_STARTCODE_BYTES`: the start-code term of the DMP length. -/
  dmpStartcodeBytes : Nat
  /-- `FRM_LEN_CONST`: the constant term of the data-framing length (90_conflicts.md C1: kept beside a 79-byte header). -/
  frmLenConst : Nat
  /-- `SYN_LEN_VALUE`: the fixed sync-framing length value (90_conflicts.md C2: kept beside a 13-byte PDU). -/
  synLenValue : Nat
  /-- `ROOT_LEN_CONST`: the constant term of the root length (90_conflicts.md C3). -/
  rootLenConst : Nat
  /-- `PREAMBLE_SIZE`. -/
  preambleSize : Half
  /-- `POSTAMBLE_SIZE`. -/
  postambleSize : Half
  /-- `ACN_PACKET_ID`: "ASC-E1.17" and 3 zero bytes. -/
  acnPacketId : Bytes
  /-- `VECTOR_ROOT` (ROOT_VECTOR). -/
  vectorRoot : Quad
  /-- `VECTOR_DATA_PACKET` (DATA_PACKET). -/
  vectorDataPacket : Quad
  /-- `VECTOR_SYNC_PACKET` (SYNC_PACKET). -/
  vectorSyncPacket : Quad
  /-- `VECTOR_DMP_SET_PROPERTY` (SET_PROPERTY). -/
  vectorDmpSetProperty : Byte
  /-- `DMP_ADDR_DATA_TYPE`: the address-and-data-type byte. -/
  dmpAddrDataType : Byte
  /-- `DMP_FIRST_ADDR`: the first-property address. -/
  dmpFirstAddr : Half
  /-- `DMP_ADDR_INC`: the address increment. -/
  dmpAddrInc : Half
  /-- `DMX_STARTCODE`: the DMX start code. -/
  dmxStartcode : Byte
  /-- `FRM_RESERVED`: the 2 reserved bytes of data framing. -/
  frmReserved : Half
  /-- `DEFAULT_PRIORITY`: the priority used when the caller gives none. -/
  defaultPriority : Byte
  /-- `PRIORITY_VALID_MAX`: the top of the valid priority range. The block does not check it (42_framing_layer.md R113); it is a
duty of the host (R208 (b)). -/
  priorityValidMax : Byte
  /-- `DEFAULT_SYNC_UNIVERSE`: the sync universe used when none is supplied (R7, R154). -/
  defaultSyncUniverse : Half
deriving DecidableEq, Repr

/-- The values: R6's table, and `DEFAULT_SYNC_UNIVERSE = 0` (45_packet_builder.md R152, R154; D17; log 3). -/
def FixedParams.document : FixedParams where
  lenMax := 4095
  lenValueBits := 12
  lenFieldBytes := 2
  maxLevels := 512
  cidBytes := 16
  nameBytes := 64
  dmpLenConst := 10
  dmpStartcodeBytes := 1
  frmLenConst := 77
  synLenValue := 11
  rootLenConst := 22
  preambleSize := 0x0010#16
  postambleSize := 0x0000#16
  acnPacketId :=
    [0x41#8, 0x53#8, 0x43#8, 0x2D#8, 0x45#8, 0x31#8, 0x2E#8, 0x31#8, 0x37#8, 0x00#8, 0x00#8, 0x00#8]
  vectorRoot := 0x00000004#32
  vectorDataPacket := 0x00000002#32
  vectorSyncPacket := 0x00000001#32
  vectorDmpSetProperty := 0x02#8
  dmpAddrDataType := 0xA1#8
  dmpFirstAddr := 0x0000#16
  dmpAddrInc := 0x0001#16
  dmxStartcode := 0x00#8
  frmReserved := 0x0000#16
  defaultPriority := 100#8
  priorityValidMax := 200#8
  defaultSyncUniverse := 0x0000#16

end Sys2Proof
end

