-- ==== Sys2Proof/Config.lean ====
section
/-! DEFINITION. The configuration record: the parameters the spec fixes (00_scope.md R6) and those it leaves open (R7), every
admissible value of the open ones and no other. -/

namespace Sys2Proof

/-- The parameters R7 leaves open ("Open parameters in one place", 92_eei_decisions.md). The types admit exactly the admissible
values. `OPT_FORCE_SYNC` is a mask with one bit set, held as that bit's position, and `OPTIONS_VALUE` is the mask together with
whatever other bits a configuration sets (log 2). -/
structure OpenParams where
  /-- `LEN_FLAGS`: the fixed high nibble of every length field (R60). -/
  lenFlags : BitVec 4
  /-- The position of the one set bit of `OPT_FORCE_SYNC` (R66). -/
  forceSyncBit : Fin 8
  /-- The bits of `OPTIONS_VALUE` besides the force-synchronization bit (R66; zero by the spec's default). -/
  otherOptions : Byte
  /-- `SYN_RESERVED`: the 4 reserved bytes of a sync-framing PDU (R127). -/
  synReserved : Vector Byte 4
  /-- `DEFAULT_CID`: the process-wide CID, exactly 16 bytes (R154). -/
  defaultCid : Vector Byte 16
  /-- `DEFAULT_NAME`: used when no name is supplied (R154). -/
  defaultName : Bytes
deriving DecidableEq, Repr, Inhabited

/-- The configuration (10_state.md R24): the open parameters, and the fixed ones at the values of their table. -/
structure Config extends OpenParams where
  /-- The fixed parameters (R6). -/
  fixed : FixedParams := FixedParams.document
  /-- No configuration holds other values than the table's: the spec fixes them. -/
  fixed_is : fixed = FixedParams.document := by rfl
deriving DecidableEq, Repr

/-- The open parameters in place when the block comes out of reset (R33: "not reset: fixed before the first command"). The spec
fixes none of their values, so they are uninterpreted: no proof can rest on one of them (DESIGN CHOICE, log 1). -/
opaque OpenParams.atBoot : OpenParams

/-- The configuration in place when the block comes out of reset: the open parameters uninterpreted, the fixed ones at the values
of their table. -/
def Config.atBoot : Config where
  toOpenParams := OpenParams.atBoot

end Sys2Proof
end

