-- ==== Sys2Proof/Syntax.lean ====
section
/-! DEFINITION. The instructions (30_encoding.md R74): one constructor per row of spec/opcode_table.json. Operands travel on the
operand ports, not in the descriptor (R73), so a constructor holds only the presence flags its row's pattern has. -/

namespace Sys2Proof

/-- The seven operations of the block (R74, R75). -/
inductive Instr where
  /-- LEN.ENC, `00000001` (R90). -/
  | lenEnc
  /-- DMP.ENC, `00000010` (R100). -/
  | dmpEnc
  /-- FRM.ENC, `00000011` (R110). -/
  | frmEnc
  /-- SYN.ENC, `00000100` (R125). -/
  | synEnc
  /-- ROOT.ENC, `00000101` (R135). -/
  | rootEnc
  /-- BUILD.DATA, `00snc110`, with the flags `C`, `N`, `S` in that order (R152). -/
  | buildData (c n sy : Bool)
  /-- BUILD.SYNC, `0000c111`, with the flag `C` (R155). -/
  | buildSync (c : Bool)
deriving DecidableEq, Repr

/-- The fields of a command descriptor (R73), before anything is checked: what a host can write, reserved forms included. -/
structure Descriptor where
  /-- `OP = CMD[2:0]`. -/
  op : BitVec 3
  /-- `C = CMD[3]`: a CID is supplied. -/
  c : Bool
  /-- `N = CMD[4]`: a name is supplied. -/
  n : Bool
  /-- `S = CMD[5]`: a sync universe is supplied. -/
  sy : Bool
  /-- `CMD[7:6]`: reserved, must be 0. -/
  high : BitVec 2
deriving DecidableEq, Repr

end Sys2Proof
end

