-- ==== Sys2Proof/WellFormed.lean ====
section
/-! DEFINITION. Which descriptors and instructions are well formed (30_encoding.md R73, R75, R76), written apart from the decoder
so that the two can be held against each other. -/

namespace Sys2Proof

/-- R76: bits 7 and 6 are reserved and must be 0. -/
def Descriptor.highClear (d : Descriptor) : Bool := d.high == 0#2

/-- R76: `OP = 000` is reserved. -/
def Descriptor.opAssigned (d : Descriptor) : Bool := d.op != 0b000#3

/-- R76: `C` is allowed on BUILD.DATA (110) and BUILD.SYNC (111) only. -/
def Descriptor.cAllowed (d : Descriptor) : Bool := !d.c || d.op == 0b110#3 || d.op == 0b111#3

/-- R76: `N` is allowed on BUILD.DATA (110) only. -/
def Descriptor.nAllowed (d : Descriptor) : Bool := !d.n || d.op == 0b110#3

/-- R76: `S` is allowed on BUILD.DATA (110) only. -/
def Descriptor.sAllowed (d : Descriptor) : Bool := !d.sy || d.op == 0b110#3

/-- A descriptor that is not one of R76's reserved encodings. -/
def Descriptor.wellFormed (d : Descriptor) : Bool :=
  d.highClear && d.opAssigned && d.cAllowed && d.nAllowed && d.sAllowed

/-- Every instruction is well formed: a flag that a row of R74 does not have cannot be written in its constructor. -/
def Instr.wellFormed : Instr → Bool
  | .lenEnc => true
  | .dmpEnc => true
  | .frmEnc => true
  | .synEnc => true
  | .rootEnc => true
  | .buildData _ _ _ => true
  | .buildSync _ => true

end Sys2Proof
end

