-- ==== Sys2Proof/Decode.lean ====
section
/-! DEFINITION. The command descriptor's decoder, total on every byte and rejecting by name, and its encoder (30_encoding.md R73,
R74, R76). -/

namespace Sys2Proof

/-- Why a descriptor is reserved (R76). -/
inductive Reserved where
  /-- Bit 7 or bit 6 is set. -/
  | highBits
  /-- `OP = 000`. -/
  | operation
  /-- A presence flag is set on an operation that does not have it. -/
  | flag
deriving DecidableEq, Repr

/-- What the decoder reads in a descriptor byte. -/
inductive Decoded where
  | ok (i : Instr)
  | reserved (why : Reserved)
deriving DecidableEq, Repr

/-- The fields of a descriptor byte (R73). -/
def descriptorOf (cmd : Byte) : Descriptor where
  op := cmd.extractLsb' 0 3
  c := cmd.getLsbD 3
  n := cmd.getLsbD 4
  sy := cmd.getLsbD 5
  high := cmd.extractLsb' 6 2

/-- The decoder (R74, R76). When several of R76's conditions hold, the first in the order high bits, operation, flags names the
rejection (log 9). -/
def decode (cmd : Byte) : Decoded :=
  let d := descriptorOf cmd
  if d.high ≠ 0#2 then .reserved .highBits
  else
    match d.op.toNat with
    | 1 => if d.c || d.n || d.sy then .reserved .flag else .ok .lenEnc
    | 2 => if d.c || d.n || d.sy then .reserved .flag else .ok .dmpEnc
    | 3 => if d.c || d.n || d.sy then .reserved .flag else .ok .frmEnc
    | 4 => if d.c || d.n || d.sy then .reserved .flag else .ok .synEnc
    | 5 => if d.c || d.n || d.sy then .reserved .flag else .ok .rootEnc
    | 6 => .ok (.buildData d.c d.n d.sy)
    | 7 => if d.n || d.sy then .reserved .flag else .ok (.buildSync d.c)
    | _ => .reserved .operation

/-- A descriptor byte from its fields, bit 7 first, reserved bits 0 (R73). -/
def descriptorByte (op : BitVec 3) (c n sy : Bool) : Byte :=
  0#2 ++ BitVec.ofBool sy ++ BitVec.ofBool n ++ BitVec.ofBool c ++ op

/-- The encoder: each row's pattern in R74's opcode map. -/
def encode : Instr → Byte
  | .lenEnc => descriptorByte 0b001#3 false false false
  | .dmpEnc => descriptorByte 0b010#3 false false false
  | .frmEnc => descriptorByte 0b011#3 false false false
  | .synEnc => descriptorByte 0b100#3 false false false
  | .rootEnc => descriptorByte 0b101#3 false false false
  | .buildData c n sy => descriptorByte 0b110#3 c n sy
  | .buildSync c => descriptorByte 0b111#3 c false false

/-- The instruction the decoder reads from an instruction whose table bits are `w`. A descriptor is one byte, so the bits above
`nbits` are 0 and nothing follows. -/
def decodeTableWord (nbits w : Nat) : Option Instr :=
  match decode (BitVec.ofNat 8 (w % 2 ^ nbits)) with
  | .ok i => some i
  | .reserved _ => none

end Sys2Proof
end

