-- ==== Sys2Proof/Machine/State.lean ====
section
/-! DEFINITION. The state of the block as plain data (10_state.md), and its reset (R33, R200). -/

namespace Sys2Proof.Machine

/-- The operand ports and operand buffers: everything a command carries (10_state.md R21, R23). `OP`, `C`, `N` and `S` are the
fields of `cmd` (30_encoding.md R73). No operation writes any of them (R10, R21). -/
structure Ports where
  /-- `CMD`: the command descriptor. -/
  cmd : Byte
  /-- `LEN_IN`: a natural number with no upper bound (R22). -/
  lenIn : Nat
  /-- `SEQUENCE`. -/
  sequence : Byte
  /-- `PRIORITY`. -/
  priority : Byte
  /-- `SYNC_UNIVERSE`. -/
  syncUniverse : Half
  /-- `UNIVERSE`. -/
  univ : Half
  /-- `LEVELS`: the DMX levels. -/
  levels : Bytes
  /-- `CID`. -/
  cid : Bytes
  /-- `NAME`. -/
  name : Bytes
  /-- `NESTED`: the already-encoded PDU a layer wraps. -/
  nested : Bytes
deriving DecidableEq, Repr

/-- The ports right after reset. R33: they "hold no value; nothing reads them before a command drives them"; the model writes
zero and empty there (DESIGN CHOICE, log 6). -/
def Ports.atReset : Ports where
  cmd := 0#8
  lenIn := 0
  sequence := 0#8
  priority := 0#8
  syncUniverse := 0#16
  univ := 0#16
  levels := []
  cid := []
  name := []
  nested := []

/-- The values of the `STATUS` register (10_state.md R26). Its 2-bit codes are `Status.code`. -/
inductive Status where
  | ok
  | eLevels
  | eCid
  | eLength
deriving DecidableEq, Repr

/-- The three validation errors (60_exceptions.md R170, R171). -/
inductive ErrCode where
  /-- "DMX payload exceeds 512 values" (R172). -/
  | eLevels
  /-- "CID not exactly 16 bytes" (R173). -/
  | eCid
  /-- "length value exceeds the 12-bit range" (R174). -/
  | eLength
deriving DecidableEq, Repr

/-- The result of an operation (00_scope.md R11): `Ok(bytes)` or `Err(code)`. -/
inductive Result where
  | ok (b : Bytes)
  | err (c : ErrCode)
deriving DecidableEq, Repr

/-- One thing the host does to the block (60_exceptions.md R184, 70_reset_and_hazards.md R200). -/
inductive HostMove where
  /-- Present a command: descriptor and operands, stable until the result is visible (R205). -/
  | command (p : Ports)
  /-- Reset the block while no command is in progress. -/
  | reset
  /-- Present a command and reset the block before the command has ended (R200, log 8). -/
  | resetDuring (p : Ports)
deriving DecidableEq, Repr

/-- The state of the block, its configuration, and what the host has yet to do. -/
structure State where
  /-- The operand ports as last driven (R21, R23). -/
  ports : Ports
  /-- `STATUS` (R26, R27). -/
  status : Status
  /-- `OUT_N` (R26). -/
  outN : Nat
  /-- `OUT` (R26). -/
  out : Bytes
  /-- The configuration: an input of the step function that no step changes (R24, log 1). -/
  cfg : Config
  /-- What the host will do, in issue order (R49 (c), R206): the model's own field (log 4). -/
  issue : List HostMove
deriving DecidableEq, Repr

/-- Reasons for a fault. There is none: the block's errors are defined outcomes recorded in `STATUS` (R182 (b)), and "the block
raises no other exception" (R170). No step of this machine answers with a fault, which is exact (log 17). -/
inductive Fault where
deriving DecidableEq, Repr

/-- Reasons for a refusal. -/
inductive Refusal where
  /-- An instruction with no meaning yet, raised by `exec`. No arm raises it: every instruction has its meaning. Safe. -/
  | notModelled (mnemonic : String)
  /-- A reserved command descriptor, raised by `step` when the decoder rejects it (R76: "a model *refuses* them (no step, no
  result, a refusal mark)"). Safe: nothing is claimed of such a command. -/
  | reserved (why : Reserved)
deriving DecidableEq, Repr

/-- The block right after reset (R33): `STATUS = OK`, `OUT_N = 0`, `OUT` empty; the configuration in place beforehand, of which
nothing is known; nothing presented. -/
def State.reset : State where
  ports := Ports.atReset
  status := .ok
  outN := 0
  out := []
  cfg := Config.atBoot
  issue := []

end Sys2Proof.Machine
end

