-- ==== Sys2Proof/Machine/Flags.lean ====
section
/-! DEFINITION. The block's only flag, `STATUS` (10_state.md R26, R27): its codes and how a result sets it. There are no condition
codes. -/

namespace Sys2Proof.Machine

/-- The 2-bit code of a status (R26, 60_exceptions.md R171): 0 `OK`, 1 `E_LEVELS`, 2 `E_CID`, 3 `E_LENGTH`. -/
def Status.code : Status → BitVec 2
  | .ok => 0#2
  | .eLevels => 1#2
  | .eCid => 2#2
  | .eLength => 3#2

/-- The status a 2-bit code stands for: the inverse of `Status.code`. -/
def Status.ofCode (b : BitVec 2) : Status :=
  if b = 0#2 then .ok else if b = 1#2 then .eLevels else if b = 2#2 then .eCid else .eLength

/-- The status that records a validation error (R171). -/
def ErrCode.status : ErrCode → Status
  | .eLevels => .eLevels
  | .eCid => .eCid
  | .eLength => .eLength

/-- The status a result sets: `OK` on success, the error's code otherwise (R26). -/
def Result.status : Result → Status
  | .ok _ => .ok
  | .err c => c.status

end Sys2Proof.Machine
end

