-- ==== Sys2Proof/Machine/Ops.lean ====
section
/-! DEFINITION. The shared operations: byte order and padding (00_scope.md R9), buffer reads and appends (20_memory.md R46, R47),
sequencing of stages (45_packet_builder.md R150, R151), latching a result, taking an error (60_exceptions.md R176), presenting a
command (10_state.md R21) and reset (70_reset_and_hazards.md R200). -/

namespace Sys2Proof.Machine

/-- `be16`: the two bytes of a 16-bit value, most significant first (R9, R41). -/
def be16 (v : Half) : Bytes := [v.extractLsb' 8 8, v.extractLsb' 0 8]

/-- `be32`: the four bytes of a 32-bit value, most significant first (R9, R41). -/
def be32 (v : Quad) : Bytes :=
  [v.extractLsb' 24 8, v.extractLsb' 16 8, v.extractLsb' 8 8, v.extractLsb' 0 8]

/-- The number `v` in `n` bytes, most significant first (R9, R41): the shape of a field whose size is a parameter. -/
def bigEndian : Nat → Nat → Bytes
  | 0, _ => []
  | n + 1, v => BitVec.ofNat 8 (v >>> (8 * n)) :: bigEndian n v

/-- `pad_N`: the first `N` bytes of `b`, then zero bytes up to width `N` (R9). Written byte by byte, so that its size is `N`
whatever `b` is; `padTo_eq_take` (Laws/Ops.lean) shows it is R9's `(b ++ zeros(N))[0..N)`. -/
def padTo : Nat → Bytes → Bytes
  | 0, _ => []
  | n + 1, b => b.headD 0#8 :: padTo n b.tail

/-- `BufRead(buf, off, k)`: the bytes `buf[off..off+k)` (R46). Defined only when they exist; no operation reads otherwise. -/
def bufRead (buf : Bytes) (off k : Nat) : Bytes := (buf.drop off).take k

/-- A whole operand buffer, `buf[0..|buf|)`: how every operation reads `LEVELS`, `CID` and `NESTED` (R46, R48). -/
def readWhole (buf : Bytes) : Bytes := bufRead buf 0 buf.length

/-- `Emit(b)`: append `b` at the current end of the stage's buffer (R47). -/
def emit (buf b : Bytes) : Bytes := buf ++ b

/-- A stage's emissions in order, into a buffer that starts empty (R47). -/
def emitAll (bs : List Bytes) : Bytes := bs.foldl emit []

/-- Run the next part of a command on the bytes of the part before it, or end early with its error (R150, R151): nothing the
earlier parts produced survives an error. -/
def Result.andThen : Result → (Bytes → Result) → Result
  | .ok b, f => f b
  | .err c, _ => .err c

/-- Latch a success (R26): `STATUS = OK`, `OUT = b`, `OUT_N = |b|`. -/
def State.succeed (s : State) (b : Bytes) : State :=
  { s with status := .ok, outN := b.length, out := b }

/-- Take a validation error (R176): `STATUS` holds the code, `OUT` is empty, `OUT_N = 0`. "Nothing else changes": no saved
program counter, cause, mode, mask, vector or handler exists. There is no return operation beside it, "because nothing was
entered" (R177): the next command simply overwrites the latch. -/
def State.takeError (s : State) (c : ErrCode) : State :=
  { s with status := c.status, outN := 0, out := [] }

/-- `latch` (R26): record a command's result. `STATUS`, `OUT_N` and `OUT` change together, at the command's end (R43, R49). -/
def State.latch (s : State) : Result → State
  | .ok b => s.succeed b
  | .err c => s.takeError c

/-- Present a command (R21): the ports are driven with its descriptor and operands and sampled once; `rest` is what the host does
afterwards. -/
def State.present (s : State) (p : Ports) (rest : List HostMove) : State :=
  { s with ports := p, issue := rest }

/-- Reset (R200): its whole effect is to put the result latch in the state of R33. The configuration is untouched. -/
def State.resetLatch (s : State) : State :=
  { s with status := .ok, outN := 0, out := [] }

end Sys2Proof.Machine
end

