-- ==== Sys2Proof/Machine/Operands.lean ====
section
/-! DEFINITION. How an operation obtains its operands (30_encoding.md R69, R75): the scalar ports as they are, the buffers read
whole, the optional operands or their defaults (45_packet_builder.md R154), and the configuration's derived values. -/

namespace Sys2Proof

/-- `OPT_FORCE_SYNC`: the mask of the force-synchronization bit, exactly one bit set (00_scope.md R7). -/
def Config.optForceSync (cfg : Config) : Byte := 1#8 <<< cfg.forceSyncBit.val

/-- `OPTIONS_VALUE`: the options byte of every data-framing PDU. It always has the force-synchronization bit (30_encoding.md R66,
42_framing_layer.md R114); no operand reaches it. -/
def Config.optionsValue (cfg : Config) : Byte := cfg.optForceSync ||| cfg.otherOptions

/-- `SYN_RESERVED` as the bytes emitted (43_sync_framing_layer.md R127). -/
def Config.synReservedBytes (cfg : Config) : Bytes := List.ofFn fun i : Fin 4 => cfg.synReserved[i]

/-- `DEFAULT_CID` as a byte sequence, of size 16 whatever its value (00_scope.md R7). -/
def Config.defaultCidBytes (cfg : Config) : Bytes := List.ofFn fun i : Fin 16 => cfg.defaultCid[i]

namespace Machine

/-- The `LEVELS` operand (R46, R48). -/
def Ports.readLevels (p : Ports) : Bytes := readWhole p.levels

/-- The `CID` operand (R46, R48). -/
def Ports.readCid (p : Ports) : Bytes := readWhole p.cid

/-- The `NAME` operand. All of it is handed to `pad_64`, which keeps the first 64 bytes (R46, R69). -/
def Ports.readName (p : Ports) : Bytes := readWhole p.name

/-- The `NESTED` operand (R46, R48). -/
def Ports.readNested (p : Ports) : Bytes := readWhole p.nested

/-- `cid?`: the `CID` buffer when `C = 1`, an empty one included (30_encoding.md R75), else `DEFAULT_CID` (R154). -/
def Ports.cidOr (p : Ports) (cfg : Config) (c : Bool) : Bytes :=
  if c then p.readCid else cfg.defaultCidBytes

/-- `name?`: the `NAME` buffer when `N = 1`, an empty one included (30_encoding.md R75), else `DEFAULT_NAME` (R154). -/
def Ports.nameOr (p : Ports) (cfg : Config) (n : Bool) : Bytes :=
  if n then p.readName else cfg.defaultName

/-- `sync_universe?`: the `SYNC_UNIVERSE` port when `S = 1`, else `DEFAULT_SYNC_UNIVERSE`, which is 0 (R152, R154). -/
def Ports.syncOr (p : Ports) (cfg : Config) (sy : Bool) : Half :=
  if sy then p.syncUniverse else cfg.fixed.defaultSyncUniverse

end Machine

end Sys2Proof
end

