-- ==== Sys2Proof/Machine/LengthCodec.lean ====
section
/-! DEFINITION. The flagged length codec (40_length_codec.md): `LEN`, LEN.ENC, and the spec's own decoding functions. -/

namespace Sys2Proof.Machine

/-- The number `L` of R60: `LEN_FLAGS` above the `LEN_VALUE_BITS` bits of the length value. -/
def lenNumber (cfg : Config) (v : Nat) : Nat := cfg.lenFlags.toNat <<< cfg.fixed.lenValueBits ||| v

/-- `LEN(v)` (R90): the flagged length field of a natural number, compared with `LEN_MAX` = 4095 at its true value and rejected
above it, never truncated. It is `L` in `LEN_FIELD_BYTES` = 2 bytes, most significant first (R60): the first is
`(LEN_FLAGS << 4) | v[11:8]`, the second `v[7:0]` (`lenField_eq_lenBytes` and `lenBytes_high`, Laws/Ops.lean). -/
def lenField (cfg : Config) (v : Nat) : Result :=
  if v > cfg.fixed.lenMax then .err .eLength
  else .ok (bigEndian cfg.fixed.lenFieldBytes (lenNumber cfg v))

/-- The result of LEN.ENC (R90). -/
def lenEncResult (cfg : Config) (p : Ports) : Result := lenField cfg p.lenIn

/-- LEN.ENC (R90). -/
def execLenEnc (s : State) : Host.Outcome State Fault Refusal :=
  .next (s.latch (lenEncResult s.cfg s.ports))

/-- `len_decode(b0, b1) = ((b0 & 0x0F) << 8) | b1` (R92): a function of the spec, not an operation of the block. -/
def lenDecode (b0 b1 : Byte) : Nat := ((b0 &&& 0x0F#8).toNat <<< 8) ||| b1.toNat

/-- `len_flags(b0) = b0 >> 4` (R92). -/
def lenFlagsOf (b0 : Byte) : BitVec 4 := (b0 >>> 4).setWidth 4

end Sys2Proof.Machine
end

