-- ==== Sys2Proof/Machine/Dmp.lean ====
section
/-! DEFINITION. The DMP layer (41_dmp_layer.md): DMP.ENC. -/

namespace Sys2Proof.Machine

/-- `DMP(levels)` (R100): the levels are counted first, before any byte is produced; then the PDU of 30_encoding.md R68. -/
def dmpPdu (cfg : Config) (levels : Bytes) : Result :=
  if levels.length > cfg.fixed.maxLevels then .err .eLevels
  else
    (lenField cfg (cfg.fixed.dmpLenConst + cfg.fixed.dmpStartcodeBytes + levels.length)).andThen fun len =>
      .ok (emitAll
        [len, [cfg.fixed.vectorDmpSetProperty], [cfg.fixed.dmpAddrDataType], be16 cfg.fixed.dmpFirstAddr,
          be16 cfg.fixed.dmpAddrInc, be16 (BitVec.ofNat 16 (1 + levels.length)), [cfg.fixed.dmxStartcode], levels])

/-- The result of DMP.ENC (R100). -/
def dmpEncResult (cfg : Config) (p : Ports) : Result := dmpPdu cfg p.readLevels

/-- DMP.ENC (R100). -/
def execDmpEnc (s : State) : Host.Outcome State Fault Refusal :=
  .next (s.latch (dmpEncResult s.cfg s.ports))

end Sys2Proof.Machine
end

