-- ==== Sys2Proof/Machine/Framing.lean ====
section
/-! DEFINITION. The data framing layer (42_framing_layer.md): FRM.ENC. -/

namespace Sys2Proof.Machine

/-- `FRM(name, priority, sequence, sync_universe, universe, dmp)` (R110), in the document's parameter order (90_conflicts.md C7):
the PDU of 30_encoding.md R65. The declared length is 77 plus the size of the nested buffer (R111); nothing but that length is
checked (R112, R113, R115), and the options byte depends on no operand (R114). -/
def frmPdu (cfg : Config) (name : Bytes) (priority sequence : Byte) (syncUniverse univ : Half) (dmp : Bytes) : Result :=
  (lenField cfg (cfg.fixed.frmLenConst + dmp.length)).andThen fun len =>
    .ok (emitAll
      [len, be32 cfg.fixed.vectorDataPacket, padTo cfg.fixed.nameBytes name, [priority], be16 cfg.fixed.frmReserved,
        be16 syncUniverse, [sequence], [cfg.optionsValue], be16 univ, dmp])

/-- The result of FRM.ENC (R110). -/
def frmEncResult (cfg : Config) (p : Ports) : Result :=
  frmPdu cfg p.readName p.priority p.sequence p.syncUniverse p.univ p.readNested

/-- FRM.ENC (R110). -/
def execFrmEnc (s : State) : Host.Outcome State Fault Refusal :=
  .next (s.latch (frmEncResult s.cfg s.ports))

end Sys2Proof.Machine
end

