-- ==== Sys2Proof/Machine/Root.lean ====
section
/-! DEFINITION. The root layer (44_root_layer.md): ROOT.ENC. -/

namespace Sys2Proof.Machine

/-- `ROOT(cid, nested)` (R135): the CID's size is checked first (R137), then the length; the PDU of 30_encoding.md R64. The 16
prefix bytes are emitted before the length field, and an `E_LENGTH` discards them. -/
def rootPdu (cfg : Config) (cid nested : Bytes) : Result :=
  if cid.length ≠ cfg.fixed.cidBytes then .err .eCid
  else
    (lenField cfg (cfg.fixed.rootLenConst + nested.length)).andThen fun len =>
      .ok (emitAll
        [be16 cfg.fixed.preambleSize, be16 cfg.fixed.postambleSize, cfg.fixed.acnPacketId, len, be32 cfg.fixed.vectorRoot,
          cid, nested])

/-- The result of ROOT.ENC (R135). -/
def rootEncResult (cfg : Config) (p : Ports) : Result := rootPdu cfg p.readCid p.readNested

/-- ROOT.ENC (R135). -/
def execRootEnc (s : State) : Host.Outcome State Fault Refusal :=
  .next (s.latch (rootEncResult s.cfg s.ports))

end Sys2Proof.Machine
end

