-- ==== Sys2Proof/Machine/SyncFraming.lean ====
section
/-! DEFINITION. The sync framing layer (43_sync_framing_layer.md): SYN.ENC. -/

namespace Sys2Proof.Machine

/-- `SYN(sequence, sync_universe)` (R125): the 13-byte PDU of 30_encoding.md R67, whose declared length is the constant 11
(R126). -/
def synPdu (cfg : Config) (sequence : Byte) (syncUniverse : Half) : Result :=
  (lenField cfg cfg.fixed.synLenValue).andThen fun len =>
    .ok (emitAll
      [len, be32 cfg.fixed.vectorSyncPacket, [sequence], be16 syncUniverse, cfg.synReservedBytes])

/-- The result of SYN.ENC (R125). -/
def synEncResult (cfg : Config) (p : Ports) : Result := synPdu cfg p.sequence p.syncUniverse

/-- SYN.ENC (R125). -/
def execSynEnc (s : State) : Host.Outcome State Fault Refusal :=
  .next (s.latch (synEncResult s.cfg s.ports))

end Sys2Proof.Machine
end

