-- ==== Sys2Proof/Machine/Builder.lean ====
section
/-! DEFINITION. The packet builder (45_packet_builder.md): BUILD.DATA and BUILD.SYNC. The stage buffers `DMP_BUF` and `FRM_BUF`
(10_state.md R25) are the intermediate byte sequences `dmp` and `frm` below: they exist inside one step only. -/

namespace Sys2Proof.Machine

/-- The result of BUILD.DATA (R152): the DMP stage, then the framing stage on its output with priority 100, then the root stage
on that, each run only when the one before it has succeeded (R150, R151). Defaults are substituted before any stage (R154). -/
def buildDataResult (cfg : Config) (c n sy : Bool) (p : Ports) : Result :=
  (dmpPdu cfg p.readLevels).andThen fun dmp =>
    (frmPdu cfg (p.nameOr cfg n) cfg.fixed.defaultPriority p.sequence (p.syncOr cfg sy) p.univ dmp).andThen fun frm =>
      rootPdu cfg (p.cidOr cfg c) frm

/-- BUILD.DATA (R152). -/
def execBuildData (c n sy : Bool) (s : State) : Host.Outcome State Fault Refusal :=
  .next (s.latch (buildDataResult s.cfg c n sy s.ports))

/-- The result of BUILD.SYNC (R155): the sync-framing stage, then the root stage on its output. -/
def buildSyncResult (cfg : Config) (c : Bool) (p : Ports) : Result :=
  (synPdu cfg p.sequence p.syncUniverse).andThen fun syn => rootPdu cfg (p.cidOr cfg c) syn

/-- BUILD.SYNC (R155). -/
def execBuildSync (c : Bool) (s : State) : Host.Outcome State Fault Refusal :=
  .next (s.latch (buildSyncResult s.cfg c s.ports))

end Sys2Proof.Machine
end

