-- ==== Sys2Proof/Machine/Dispatch.lean ====
section
/-! DEFINITION. One arm per instruction (30_encoding.md R74). -/

namespace Sys2Proof.Machine

def exec (i : Instr) (s : State) : Host.Outcome State Fault Refusal :=
  match i with
  | .lenEnc => Sys2Proof.Machine.execLenEnc s
  | .dmpEnc => Sys2Proof.Machine.execDmpEnc s
  | .frmEnc => Sys2Proof.Machine.execFrmEnc s
  | .synEnc => Sys2Proof.Machine.execSynEnc s
  | .rootEnc => Sys2Proof.Machine.execRootEnc s
  | .buildData c n sy => Sys2Proof.Machine.execBuildData c n sy s
  | .buildSync c => Sys2Proof.Machine.execBuildSync c s

end Sys2Proof.Machine
end

