-- ==== Sys2Proof/Machine/Step.lean ====
section
/-! DEFINITION. One step of the block: one thing the host does. A command is one atomic step (10_state.md R20). -/

namespace Sys2Proof.Machine

/-- One step. A command presented is decoded and executed on its operands (R21, R26: `step(state, command) =
latch(exec(config, command))`); a reserved descriptor is refused (30_encoding.md R76). A reset puts the latch in its reset state;
one that arrives during a command abandons it, with none of its results visible (70_reset_and_hazards.md R200, log 8). With
nothing presented "the block is idle between commands and keeps its result latch" (60_exceptions.md R192, log 5). -/
def step (s : State) : Host.Outcome State Fault Refusal :=
  match s.issue with
  | [] => .next s
  | .command p :: rest =>
    match decode p.cmd with
    | .ok i => exec i (s.present p rest)
    | .reserved why => .refused (.reserved why)
  | .reset :: rest => .next (s.present s.ports rest).resetLatch
  | .resetDuring p :: rest => .next (s.present p rest).resetLatch

/-- `s` with the instruction whose descriptor bits are `w` as the next thing the host does, in place of whatever was next, with
the operands that stand on the ports (log 21). -/
def State.withFetchWord (s : State) (nbits w : Nat) : State :=
  { s with issue := .command { s.ports with cmd := BitVec.ofNat 8 (w % 2 ^ nbits) } :: s.issue.tail }

end Sys2Proof.Machine
end

