-- ==== Sys2Proof/Machine/Readback.lean ====
section
/-! DEFINITION. Reading an emitted buffer: functions of the spec used to state its rules (40_length_codec.md R92,
45_packet_builder.md R158), not operations of the block, which has no decoder. -/

namespace Sys2Proof.Machine

/-- `b[i]` (R9), for a byte that exists. -/
def byteAt (b : Bytes) (i : Nat) : Byte := b.getD i 0#8

/-- `b[i..j)` (R9). -/
def slice (b : Bytes) (i j : Nat) : Bytes := (b.drop i).take (j - i)

/-- Two bytes read as one 16-bit big-endian number, `b[k] * 256 + b[k+1]` (20_memory.md R41). -/
def wordAt (b : Bytes) (k : Nat) : Nat := (byteAt b k).toNat * 256 + (byteAt b (k + 1)).toNat

/-- The declared length of the length field at offset `k` (R92). -/
def declaredAt (b : Bytes) (k : Nat) : Nat := lenDecode (byteAt b k) (byteAt b (k + 1))

/-- What R158 reads out of a data packet. -/
structure DataFields where
  cid : Bytes
  univ : Nat
  sequence : Byte
  levels : Bytes
  syncUniverse : Nat
  priority : Byte
  name : Bytes
deriving DecidableEq, Repr

/-- R158's readings of a successful BUILD.DATA result, at the offsets of 20_memory.md R44. -/
def readDataPacket (r : Bytes) : DataFields where
  cid := slice r 22 38
  univ := wordAt r 115
  sequence := byteAt r 113
  levels := slice r 128 r.length
  syncUniverse := wordAt r 111
  priority := byteAt r 108
  name := slice r 44 108

end Sys2Proof.Machine
end

