-- ==== Sys2Proof/Machine/Calls.lean ====
section
/-! DEFINITION. The caller-facing calls (30_encoding.md R78) and a host that runs a sequence of them (R79): the host's side of the
command interface, outside the block. -/

namespace Sys2Proof.Machine

/-- A call in the syntax of R78: a mnemonic and named operands, the optional ones as options. Every operand an operation needs is
there, so what R21 calls "not a command" cannot be written. -/
inductive Call where
  /-- `LEN.ENC len=<nat>`. -/
  | len (len : Nat)
  /-- `DMP.ENC levels=<bytes>`. -/
  | dmp (levels : Bytes)
  /-- `FRM.ENC name, priority, sequence, sync_universe, universe, nested`: the document's order (90_conflicts.md C7). -/
  | frm (name : Bytes) (priority sequence : Byte) (syncUniverse univ : Half) (nested : Bytes)
  /-- `SYN.ENC sequence, sync_universe`. -/
  | syn (sequence : Byte) (syncUniverse : Half)
  /-- `ROOT.ENC cid, nested`. -/
  | root (cid nested : Bytes)
  /-- `BUILD.DATA [cid,] [name,] universe, levels, sequence [, sync_universe]`. -/
  | buildData (cid name : Option Bytes) (univ : Half) (levels : Bytes) (sequence : Byte) (syncUniverse : Option Half)
  /-- `BUILD.SYNC [cid,] sequence, sync_universe`. -/
  | buildSync (cid : Option Bytes) (sequence : Byte) (syncUniverse : Half)
deriving DecidableEq, Repr

/-- The instruction of a call: "an omitted optional operand means its flag bit is 0" (R78). -/
def Call.instr : Call → Instr
  | .len _ => .lenEnc
  | .dmp _ => .dmpEnc
  | .frm _ _ _ _ _ _ => .frmEnc
  | .syn _ _ => .synEnc
  | .root _ _ => .rootEnc
  | .buildData cid name _ _ _ sync => .buildData cid.isSome name.isSome sync.isSome
  | .buildSync cid _ _ => .buildSync cid.isSome

/-- The operands of a call on the ports its operation reads (R75), the other ports undriven (log 6). -/
def Call.operands : Call → Ports
  | .len v => { Ports.atReset with lenIn := v }
  | .dmp levels => { Ports.atReset with levels := levels }
  | .frm name priority sequence syncUniverse univ nested =>
    { Ports.atReset with name, priority, sequence, syncUniverse, univ, nested }
  | .syn sequence syncUniverse => { Ports.atReset with sequence, syncUniverse }
  | .root cid nested => { Ports.atReset with cid, nested }
  | .buildData cid name univ levels sequence sync =>
    { Ports.atReset with
      cid := cid.getD [], name := name.getD [], univ, levels, sequence, syncUniverse := sync.getD 0#16 }
  | .buildSync cid sequence syncUniverse => { Ports.atReset with cid := cid.getD [], sequence, syncUniverse }

/-- The ports of a call: its descriptor (R73) and its operands. -/
def Call.ports (c : Call) : Ports := { c.operands with cmd := encode c.instr }

/-- One call issued by a host to an idle block: present it, let it run. -/
def issueCall (c : Call) (s : State) : Host.Outcome State Fault Refusal :=
  step { s with issue := [.command c.ports] }

/-- A host running a sequence of calls, each built from the `OUT` of the one before it (`$name` of R78), stopping at the first
error (R79, 45_packet_builder.md R160). -/
def hostRun : List (Bytes → Call) → State → Host.Outcome State Fault Refusal
  | [], s => .next s
  | f :: fs, s =>
    match issueCall (f s.out) s with
    | .next t => if t.status = .ok then hostRun fs t else .next t
    | .fault r => .fault r
    | .refused r => .refused r

/-- The expansion of BUILD.DATA into layer commands (R79): DMP.ENC, FRM.ENC with priority 100, ROOT.ENC. -/
def dataExpansion (cid name : Bytes) (univ : Half) (levels : Bytes) (sequence : Byte) (syncUniverse : Half) :
    List (Bytes → Call) :=
  [fun _ => .dmp levels, fun d => .frm name FixedParams.document.defaultPriority sequence syncUniverse univ d, fun f => .root cid f]

/-- The expansion of BUILD.SYNC into layer commands (R79): SYN.ENC, ROOT.ENC. -/
def syncExpansion (cid : Bytes) (sequence : Byte) (syncUniverse : Half) : List (Bytes → Call) :=
  [fun _ => .syn sequence syncUniverse, fun s => .root cid s]

end Sys2Proof.Machine
end

