-- ==== Sys2Proof/Machine/Transmitter.lean ====
section
/-! DEFINITION. The Transmitter (60_exceptions.md R185 to R191, 70_reset_and_hazards.md R203): the block's usual host. It is
outside the block (00_scope.md R5 (c), 10_state.md R31), so none of it is in `State`; it drives the block through `step`. One
`send` is one step of the host: single-writer use is the document's premise (R190, log 15). -/

namespace Sys2Proof.Machine

/-- An IPv4 address, first number first. -/
structure Ipv4 where
  a : Byte
  b : Byte
  c : Byte
  d : Byte
deriving DecidableEq, Repr

/-- What the transport may report (R175): never raised by the block. -/
inductive TransportError where
  | socketCreation
  | binding
  | sendFailure
deriving DecidableEq, Repr

/-- One UDP datagram (R187). -/
structure Datagram where
  address : Ipv4
  port : Half
  payload : Bytes
deriving DecidableEq, Repr

/-- The Transmitter's state (R185). -/
structure Transmitter where
  /-- The DMX universe it sends. -/
  univ : Half
  /-- The destination address (R188). -/
  address : Ipv4
  /-- The destination port (R189). -/
  port : Half
  /-- The optional bound local interface (R189). -/
  bindIp : Option Ipv4
  /-- The multicast TTL, when one is given (R189). -/
  ttl : Option Nat
  /-- The sequence counter (R186). -/
  seq : Byte
deriving DecidableEq, Repr

/-- The multicast address `239.255.H.L` of a universe (R188). -/
def multicastAddress (univ : Half) : Ipv4 :=
  ⟨239#8, 255#8, univ.extractLsb' 8 8, univ.extractLsb' 0 8⟩

/-- An address as R188 writes it: four decimal numbers separated by dots. -/
def Ipv4.dotted (ip : Ipv4) : String :=
  ip.a.toNat.repr ++ "." ++ ip.b.toNat.repr ++ "." ++ ip.c.toNat.repr ++ "." ++ ip.d.toNat.repr

/-- Construction (R185, R203): address derived unless given, port 5568 unless given, counter 255. Creating or binding the socket
can fail with a TransportError, an outcome of the transport and an argument here. -/
def Transmitter.construct (univ : Half) (address : Option Ipv4) (port : Option Half) (bindIp : Option Ipv4)
    (ttl : Option Nat) (failure : Option TransportError) : Except TransportError Transmitter :=
  match failure with
  | some e => .error e
  | none =>
    .ok
      { univ, address := address.getD (multicastAddress univ), port := port.getD 5568#16, bindIp, ttl,
        seq := 255#8 }

/-- The counter's advance (R186): `if SEQ = 255 then 0 else SEQ + 1`. -/
def nextSeq (seq : Byte) : Byte := if seq = 255#8 then 0#8 else seq + 1#8

/-- The command a `send` issues (R187 (1)): BUILD.DATA with the Transmitter's universe and counter and no optional operand. -/
def Transmitter.call (t : Transmitter) (levels : Bytes) : Call := .buildData none none t.univ levels t.seq none

/-- What `send` returns to its caller (R187). -/
inductive SendReport where
  /-- The datagram was written. -/
  | sent (d : Datagram)
  /-- The block reported this validation error and nothing was sent. -/
  | invalid (e : Status)
  /-- The transport failed. -/
  | transport (e : TransportError)
deriving DecidableEq, Repr

/-- The Transmitter, the block and the report after a `send`. -/
structure Sent where
  host : Transmitter
  block : State
  report : SendReport
deriving DecidableEq, Repr

/-- `send(levels)` (R187): issue BUILD.DATA; on an error return it, send nothing, keep the counter; write one datagram; if the
transport fails return its error and keep the counter; otherwise advance the counter. No acknowledgement, no retry (R191). -/
def Transmitter.send (t : Transmitter) (levels : Bytes) (failure : Option TransportError) (s : State) :
    Host.Outcome Sent Fault Refusal :=
  match issueCall (t.call levels) s with
  | .next b =>
    if b.status ≠ .ok then .next ⟨t, b, .invalid b.status⟩
    else
      match failure with
      | some e => .next ⟨t, b, .transport e⟩
      | none => .next ⟨{ t with seq := nextSeq t.seq }, b, .sent ⟨t.address, t.port, b.out⟩⟩
  | .fault r => .fault r
  | .refused r => .refused r

/-- Successive sends of one owner (R190), with the reports in order. -/
def Transmitter.sends : List (Bytes × Option TransportError) → Transmitter → State →
    Host.Outcome (Transmitter × State × List SendReport) Fault Refusal
  | [], t, s => .next (t, s, [])
  | (levels, failure) :: rest, t, s =>
    match t.send levels failure s with
    | .next r =>
      match Transmitter.sends rest r.host r.block with
      | .next (t', s', reports) => .next (t', s', r.report :: reports)
      | .fault e => .fault e
      | .refused e => .refused e
    | .fault e => .fault e
    | .refused e => .refused e

end Sys2Proof.Machine
end

