-- ==== Sys2Proof/Safety.lean ====
section
/-! DEFINITION. What counts as a good state and a good run, in the terms the claims use. -/

namespace Sys2Proof.Machine

/-- The most bytes any command leaves in `OUT`: a ROOT.ENC result with the largest accepted nested buffer, `38 + 4073`
(44_root_layer.md R135). -/
def maxOut : Nat := 4111

/-- The result latch is consistent (10_state.md R26, 20_memory.md R43): `OUT_N` is the size of `OUT`, an error leaves no byte,
and `OUT` is never larger than the largest result. -/
structure State.Latched (s : State) : Prop where
  outN_eq : s.outN = s.out.length
  error_empty : s.status ≠ .ok → s.out = []
  bounded : s.out.length ≤ maxOut

/-- A host move that presents no reserved descriptor (30_encoding.md R76). A command that a reset abandons is never decoded to
its end, so its descriptor does not matter. -/
def HostMove.accepted : HostMove → Bool
  | .command p => (descriptorOf p.cmd).wellFormed
  | .reset => true
  | .resetDuring _ => true

/-- Every move the host will make is accepted. -/
def State.Accepted (s : State) : Prop := ∀ m ∈ s.issue, m.accepted = true

/-- Two states hold the same result. -/
def State.SameLatch (s t : State) : Prop := s.status = t.status ∧ s.outN = t.outN ∧ s.out = t.out

/-! The wire formats as the tables of 30_encoding.md and 20_memory.md list them, in arithmetic on numbers and apart from the
definitions the machine runs, so that the claims compare two descriptions. -/

namespace Spec

/-- The length field of R60, as the number `LEN_FLAGS * 4096 + v` in two bytes. -/
def lenBytes (cfg : Config) (v : Nat) : Bytes :=
  [BitVec.ofNat 8 (cfg.lenFlags.toNat * 16 + v / 256), BitVec.ofNat 8 (v % 256)]

/-- A number below 65536 in two bytes, high byte first (R41). -/
def twoBytes (v : Nat) : Bytes := [BitVec.ofNat 8 (v / 256), BitVec.ofNat 8 (v % 256)]

/-- The source-name field: `(b ++ zeros(64))[0..64)` (R9, R112). -/
def nameField (b : Bytes) : Bytes := (b ++ zeros 64).take 64

/-- `SYN_RESERVED`, first byte first (R127). -/
def reservedBytes (cfg : Config) : Bytes := cfg.synReserved.toList

/-- The DMP PDU of R68. -/
def dmpBytes (cfg : Config) (levels : Bytes) : Bytes :=
  lenBytes cfg (10 + 1 + levels.length) ++ [0x02#8] ++ [0xA1#8] ++ [0x00#8, 0x00#8] ++ [0x00#8, 0x01#8]
    ++ twoBytes (1 + levels.length) ++ [0x00#8] ++ levels

/-- The data-framing PDU of R65. -/
def frmBytes (cfg : Config) (name : Bytes) (priority sequence : Byte) (syncUniverse univ : Half) (dmp : Bytes) : Bytes :=
  lenBytes cfg (77 + dmp.length) ++ [0x00#8, 0x00#8, 0x00#8, 0x02#8] ++ nameField name ++ [priority] ++ [0x00#8, 0x00#8]
    ++ twoBytes syncUniverse.toNat ++ [sequence] ++ [cfg.optionsValue] ++ twoBytes univ.toNat ++ dmp

/-- The sync-framing PDU of R67. -/
def synBytes (cfg : Config) (sequence : Byte) (syncUniverse : Half) : Bytes :=
  lenBytes cfg 11 ++ [0x00#8, 0x00#8, 0x00#8, 0x01#8] ++ [sequence] ++ twoBytes syncUniverse.toNat ++ reservedBytes cfg

/-- Bytes 0 to 15 of every root PDU (R139). -/
def rootPrefix : Bytes :=
  [0x00#8, 0x10#8, 0x00#8, 0x00#8, 0x41#8, 0x53#8, 0x43#8, 0x2D#8, 0x45#8, 0x31#8, 0x2E#8, 0x31#8, 0x37#8, 0x00#8, 0x00#8,
    0x00#8]

/-- The root PDU of R64. -/
def rootBytes (cfg : Config) (cid nested : Bytes) : Bytes :=
  rootPrefix ++ lenBytes cfg (22 + nested.length) ++ [0x00#8, 0x00#8, 0x00#8, 0x04#8] ++ cid ++ nested

/-- The data packet, row by row as the offset map of R44 lists it. -/
def dataPacket (cfg : Config) (cid name : Bytes) (univ : Half) (levels : Bytes) (sequence : Byte) (syncUniverse : Half) :
    Bytes :=
  [0x00#8, 0x10#8] ++ [0x00#8, 0x00#8]
    ++ [0x41#8, 0x53#8, 0x43#8, 0x2D#8, 0x45#8, 0x31#8, 0x2E#8, 0x31#8, 0x37#8, 0x00#8, 0x00#8, 0x00#8]
    ++ lenBytes cfg (112 + levels.length) ++ [0x00#8, 0x00#8, 0x00#8, 0x04#8] ++ cid
    ++ lenBytes cfg (88 + levels.length) ++ [0x00#8, 0x00#8, 0x00#8, 0x02#8] ++ nameField name ++ [0x64#8]
    ++ [0x00#8, 0x00#8] ++ twoBytes syncUniverse.toNat ++ [sequence] ++ [cfg.optionsValue] ++ twoBytes univ.toNat
    ++ lenBytes cfg (11 + levels.length) ++ [0x02#8] ++ [0xA1#8] ++ [0x00#8, 0x00#8] ++ [0x00#8, 0x01#8]
    ++ twoBytes (1 + levels.length) ++ [0x00#8] ++ levels

/-- The sync packet, row by row as the offset map of R45 lists it. -/
def syncPacket (cfg : Config) (cid : Bytes) (sequence : Byte) (syncUniverse : Half) : Bytes :=
  [0x00#8, 0x10#8] ++ [0x00#8, 0x00#8]
    ++ [0x41#8, 0x53#8, 0x43#8, 0x2D#8, 0x45#8, 0x31#8, 0x2E#8, 0x31#8, 0x37#8, 0x00#8, 0x00#8, 0x00#8]
    ++ lenBytes cfg 35 ++ [0x00#8, 0x00#8, 0x00#8, 0x04#8] ++ cid ++ lenBytes cfg 11
    ++ [0x00#8, 0x00#8, 0x00#8, 0x01#8] ++ [sequence] ++ twoBytes syncUniverse.toNat ++ reservedBytes cfg

end Spec

/-- `cid?` as R152 and R155 give it. -/
def State.effectiveCid (s : State) (c : Bool) : Bytes := if c then s.ports.cid else s.cfg.defaultCid.toList

/-- `name?` as R152 gives it. -/
def State.effectiveName (s : State) (n : Bool) : Bytes := if n then s.ports.name else s.cfg.defaultName

/-- `sync_universe?` as R152 gives it: 0 when absent. -/
def State.effectiveSync (s : State) (sy : Bool) : Half :=
  if sy then s.ports.syncUniverse else 0x0000#16

/-- The state after a success of a command that found `s` (R26). -/
def State.done (s : State) (b : Bytes) : State := { s with status := .ok, outN := b.length, out := b }

/-- The state after a validation error of a command that found `s` (R176): "Nothing else changes". -/
def State.failed (s : State) (e : Status) : State := { s with status := e, outN := 0, out := [] }

end Sys2Proof.Machine
end

