-- ==== Sys2Proof/Certificates/Slice0/Obligations.lean ====
section
/-! DEFINITION. The statements for the provers. `Spec.…` (Sys2Proof/Safety.lean) are the wire formats written apart from the
machine's own definitions; `State.done` and `State.failed` are the latch of 10_state.md R26. -/

open Sys2Proof Sys2Proof.Machine

/-! Encoding and stepping. -/

/-- R74: the opcode map. Every pattern decodes to its operation, and `OP = 000` is reserved. -/
def Obligations.DecoderReadsTheOpcodeMap : Prop :=
  decode 0b00000001#8 = .ok .lenEnc ∧ decode 0b00000010#8 = .ok .dmpEnc ∧ decode 0b00000011#8 = .ok .frmEnc ∧
  decode 0b00000100#8 = .ok .synEnc ∧ decode 0b00000101#8 = .ok .rootEnc ∧
  (∀ sy n c : Bool,
    decode (BitVec.ofNat 8 (32 * sy.toNat + 16 * n.toNat + 8 * c.toNat + 6)) = .ok (.buildData c n sy)) ∧
  (∀ c : Bool, decode (BitVec.ofNat 8 (8 * c.toNat + 7)) = .ok (.buildSync c)) ∧
  (∀ high : BitVec 5, ∃ why, decode (high ++ 0b000#3) = .reserved why)

/-- R76: exactly the reserved descriptors are refused, whatever the operands and the state. -/
def Obligations.ReservedDescriptorsAreRefused : Prop :=
  ∀ (s : State) (p : Ports) (rest : List HostMove), s.issue = .command p :: rest →
    ((∃ why, step s = .refused (.reserved why)) ↔
      (p.cmd.extractLsb' 0 3 = 0b000#3 ∨ p.cmd.getLsbD 7 = true ∨ p.cmd.getLsbD 6 = true ∨
        ((p.cmd.getLsbD 4 = true ∨ p.cmd.getLsbD 5 = true) ∧ p.cmd.extractLsb' 0 3 ≠ 0b110#3) ∨
        (p.cmd.getLsbD 3 = true ∧ p.cmd.extractLsb' 0 3 ≠ 0b110#3 ∧ p.cmd.extractLsb' 0 3 ≠ 0b111#3)))

/-- Decoder and encoder agree in both directions. -/
def Obligations.DecodeAndEncodeAgree : Prop :=
  (∀ i : Instr, i.wellFormed = true → decode (encode i) = .ok i) ∧
  (∀ (cmd : Byte) (i : Instr), decode cmd = .ok i → encode i = cmd)

/-- A step on a presented command is its decoded instruction on the presented operands. The descriptor is consumed from what the
host does; the block has no program counter to move (R30). -/
def Obligations.StepRunsTheDecodedCommand : Prop :=
  ∀ (s : State) (p : Ports) (rest : List HostMove) (i : Instr), s.issue = .command p :: rest → decode p.cmd = .ok i →
    step s = exec i { s with ports := p, issue := rest }

/-- With nothing presented the block is idle and keeps its latch. The form, a step that changes nothing, is the model's
(log 5). -/
def Obligations.IdleBlockKeepsItsState : Prop :=
  ∀ s : State, s.issue = [] → step s = .next s

/-- R200: reset, alone or during a command, puts the latch in its reset state and does nothing else; and no later command shows
that it happened. That an abandoned command leaves its operands on the port fields is the model's (log 8). -/
def Obligations.ResetClearsOnlyTheLatch : Prop :=
  (∀ (s : State) (rest : List HostMove), s.issue = .reset :: rest →
    step s = .next { s with status := .ok, outN := 0, out := [], issue := rest }) ∧
  (∀ (s : State) (p : Ports) (rest : List HostMove), s.issue = .resetDuring p :: rest →
    step s = .next { s with ports := p, status := .ok, outN := 0, out := [], issue := rest }) ∧
  (∀ (s : State) (i : Instr), ∃ t u, exec i s = .next t ∧
    exec i { s with status := .ok, outN := 0, out := [] } = .next u ∧ t.SameLatch u)

/-- What reset leaves in the result latch: `STATUS` 0, `OUT_N` 0, `OUT` empty. -/
def Obligations.ResetLatchValues : Prop :=
  State.reset.status = .ok ∧ State.reset.status.code = 0#2 ∧ State.reset.outN = 0 ∧ State.reset.out = []

/-! LEN.ENC. -/

/-- R90: the length codec, for every natural number. -/
def Obligations.LenEncPacksOrRejects : Prop :=
  decode 0b00000001#8 = .ok .lenEnc ∧
  ∀ s : State,
    (s.ports.lenIn ≤ 4095 →
      exec .lenEnc s =
        .next (s.done
          [BitVec.ofNat 8 (s.cfg.lenFlags.toNat * 16 + s.ports.lenIn / 256), BitVec.ofNat 8 (s.ports.lenIn % 256)])) ∧
    (4095 < s.ports.lenIn → exec .lenEnc s = .next (s.failed .eLength))

/-- R91: `LEN` gives exactly 2 bytes or `E_LENGTH`, and is injective where it accepts. -/
def Obligations.LenIsTotalAndInjective : Prop :=
  ∀ cfg : Config,
    (∀ v : Nat, (∃ b0 b1, lenField cfg v = .ok [b0, b1]) ∨ lenField cfg v = .err .eLength) ∧
    (∀ v w : Nat, v ≤ 4095 → w ≤ 4095 → lenField cfg v = lenField cfg w → v = w)

/-- R93: decoding a length field gives back its value and the flags, and every pair of bytes under those flags is the field of
exactly one value. -/
def Obligations.LenFieldRoundTrip : Prop :=
  ∀ cfg : Config,
    (∀ (v : Nat) (b0 b1 : Byte), v ≤ 4095 → lenField cfg v = .ok [b0, b1] →
      lenDecode b0 b1 = v ∧ lenFlagsOf b0 = cfg.lenFlags) ∧
    (∀ b0 b1 : Byte, lenFlagsOf b0 = cfg.lenFlags →
      (lenField cfg (lenDecode b0 b1) = .ok [b0, b1] ∧ ∀ v, lenField cfg v = .ok [b0, b1] → v = lenDecode b0 b1))

/-! DMP.ENC. -/

/-- R100: the DMP PDU, byte for byte, for up to 512 levels, and `E_LEVELS` above. -/
def Obligations.DmpEncEmitsThePdu : Prop :=
  decode 0b00000010#8 = .ok .dmpEnc ∧
  ∀ s : State,
    (s.ports.levels.length ≤ 512 →
      exec .dmpEnc s =
        .next { s with status := .ok, outN := 11 + s.ports.levels.length, out := Spec.dmpBytes s.cfg s.ports.levels }) ∧
    (512 < s.ports.levels.length → exec .dmpEnc s = .next (s.failed .eLevels))

/-- R102, R103: what the property value count counts, and that the levels come back out of the PDU. -/
def Obligations.DmpLevelsComeBack : Prop :=
  ∀ s : State, s.ports.levels.length ≤ 512 →
    ∃ t, exec .dmpEnc s = .next t ∧ t.status = .ok ∧
      wordAt t.out 8 = 1 + s.ports.levels.length ∧ wordAt t.out 8 = (t.out.drop 10).length ∧
      byteAt t.out 10 = 0x00#8 ∧ slice t.out 11 t.out.length = s.ports.levels ∧
      s.ports.levels.length = declaredAt t.out 0 - 11

/-! FRM.ENC. -/

/-- R110: the data-framing PDU, byte for byte, while `77 + |NESTED|` fits, and `E_LENGTH` above; nothing else is checked. -/
def Obligations.FrmEncEmitsThePdu : Prop :=
  decode 0b00000011#8 = .ok .frmEnc ∧
  ∀ s : State,
    (77 + s.ports.nested.length ≤ 4095 →
      exec .frmEnc s =
        .next { s with
          status := .ok
          outN := 79 + s.ports.nested.length
          out := Spec.frmBytes s.cfg s.ports.name s.ports.priority s.ports.sequence s.ports.syncUniverse s.ports.univ
            s.ports.nested }) ∧
    (4095 < 77 + s.ports.nested.length → exec .frmEnc s = .next (s.failed .eLength))

/-- R112: the 64 bytes of the source name, padded or cut, for every name. -/
def Obligations.SourceNameIsPaddedOrCut : Prop :=
  ∀ s : State, 77 + s.ports.nested.length ≤ 4095 →
    ∃ t, exec .frmEnc s = .next t ∧ t.status = .ok ∧
      (s.ports.name.length ≤ 64 → slice t.out 6 70 = s.ports.name ++ zeros (64 - s.ports.name.length)) ∧
      (64 < s.ports.name.length → slice t.out 6 70 = s.ports.name.take 64)

/-- R113: the priority byte is the operand in FRM.ENC, above 200 too, and 100 in BUILD.DATA. -/
def Obligations.PriorityIsNotChecked : Prop :=
  (∀ s : State, 77 + s.ports.nested.length ≤ 4095 →
    ∃ t, exec .frmEnc s = .next t ∧ t.status = .ok ∧ byteAt t.out 70 = s.ports.priority) ∧
  (∀ (s : State) (c n sy : Bool), s.ports.levels.length ≤ 512 → (c = true → s.ports.cid.length = 16) →
    ∃ t, exec (.buildData c n sy) s = .next t ∧ t.status = .ok ∧ byteAt t.out 108 = 100#8)

/-- R114, R115: sync universe, options, universe and sequence in a data-framing PDU. The options byte is the configuration's
whatever the operands, with the force-synchronization bit set. -/
def Obligations.FramingScalarsAreEmittedAsGiven : Prop :=
  ∀ s : State, 77 + s.ports.nested.length ≤ 4095 →
    ∃ t, exec .frmEnc s = .next t ∧ t.status = .ok ∧
      wordAt t.out 73 = s.ports.syncUniverse.toNat ∧ byteAt t.out 75 = s.ports.sequence ∧
      byteAt t.out 76 = s.cfg.optionsValue ∧ (byteAt t.out 76).getLsbD s.cfg.forceSyncBit.val = true ∧
      wordAt t.out 77 = s.ports.univ.toNat

/-! SYN.ENC. -/

/-- R125: the 13 bytes of a sync-framing PDU, for every operand. -/
def Obligations.SynEncEmitsThePdu : Prop :=
  decode 0b00000100#8 = .ok .synEnc ∧
  ∀ s : State,
    exec .synEnc s =
      .next { s with status := .ok, outN := 13, out := Spec.synBytes s.cfg s.ports.sequence s.ports.syncUniverse }

/-! ROOT.ENC. -/

/-- R135, R137: the root PDU, byte for byte; a CID of another size than 16 is reported before an over-long nested buffer. -/
def Obligations.RootEncEmitsThePdu : Prop :=
  decode 0b00000101#8 = .ok .rootEnc ∧
  ∀ s : State,
    (s.ports.cid.length = 16 → 22 + s.ports.nested.length ≤ 4095 →
      exec .rootEnc s =
        .next { s with
          status := .ok, outN := 38 + s.ports.nested.length, out := Spec.rootBytes s.cfg s.ports.cid s.ports.nested }) ∧
    (s.ports.cid.length ≠ 16 → exec .rootEnc s = .next (s.failed .eCid)) ∧
    (s.ports.cid.length = 16 → 4095 < 22 + s.ports.nested.length → exec .rootEnc s = .next (s.failed .eLength))

/-- R138, R139: every root PDU, from ROOT.ENC or a builder, has the fixed prefix and vector and carries the CID at bytes 22 to
37. -/
def Obligations.EveryPacketHasThePrefixAndTheCid : Prop :=
  ∀ s : State,
    (s.ports.cid.length = 16 → 22 + s.ports.nested.length ≤ 4095 →
      ∃ t, exec .rootEnc s = .next t ∧ t.status = .ok ∧ slice t.out 0 16 = Spec.rootPrefix ∧
        slice t.out 18 22 = [0x00#8, 0x00#8, 0x00#8, 0x04#8] ∧ slice t.out 22 38 = s.ports.cid) ∧
    (∀ c n sy : Bool, s.ports.levels.length ≤ 512 → (c = true → s.ports.cid.length = 16) →
      ∃ t, exec (.buildData c n sy) s = .next t ∧ t.status = .ok ∧ slice t.out 0 16 = Spec.rootPrefix ∧
        slice t.out 18 22 = [0x00#8, 0x00#8, 0x00#8, 0x04#8] ∧ slice t.out 22 38 = s.effectiveCid c) ∧
    (∀ c : Bool, (c = true → s.ports.cid.length = 16) →
      ∃ t, exec (.buildSync c) s = .next t ∧ t.status = .ok ∧ slice t.out 0 16 = Spec.rootPrefix ∧
        slice t.out 18 22 = [0x00#8, 0x00#8, 0x00#8, 0x04#8] ∧ slice t.out 22 38 = s.effectiveCid c)

/-! The length law. -/

/-- R71: declared length against size, layer by layer: DMP 0, data framing −2, sync framing −2, root −16. -/
def Obligations.DeclaredLengthAgainstSize : Prop :=
  ∀ s : State,
    (s.ports.levels.length ≤ 512 →
      ∃ t, exec .dmpEnc s = .next t ∧ declaredAt t.out 0 = 10 + 1 + s.ports.levels.length ∧
        t.out.length = declaredAt t.out 0) ∧
    (77 + s.ports.nested.length ≤ 4095 →
      ∃ t, exec .frmEnc s = .next t ∧ declaredAt t.out 0 = 77 + s.ports.nested.length ∧
        t.out.length = declaredAt t.out 0 + 2) ∧
    (∃ t, exec .synEnc s = .next t ∧ declaredAt t.out 0 = 11 ∧ t.out.length = declaredAt t.out 0 + 2) ∧
    (s.ports.cid.length = 16 → 22 + s.ports.nested.length ≤ 4095 →
      ∃ t, exec .rootEnc s = .next t ∧ declaredAt t.out 16 = 22 + s.ports.nested.length ∧
        t.out.length = declaredAt t.out 16 + 16)

/-! BUILD.DATA. -/

/-- R152 with the offset map R44: the whole data packet, for every presence flag, and its two errors in their order. The last
clause is the default sync universe, 0: an absent operand is operand 0. -/
def Obligations.BuildDataEmitsThePacket : Prop :=
  (∀ sy n c : Bool,
    decode (BitVec.ofNat 8 (32 * sy.toNat + 16 * n.toNat + 8 * c.toNat + 6)) = .ok (.buildData c n sy)) ∧
  ∀ (s : State) (c n sy : Bool),
    (s.ports.levels.length ≤ 512 → (c = true → s.ports.cid.length = 16) →
      exec (.buildData c n sy) s =
        .next { s with
          status := .ok
          outN := 128 + s.ports.levels.length
          out := Spec.dataPacket s.cfg (s.effectiveCid c) (s.effectiveName n) s.ports.univ s.ports.levels s.ports.sequence
            (s.effectiveSync sy) }) ∧
    (512 < s.ports.levels.length → exec (.buildData c n sy) s = .next (s.failed .eLevels)) ∧
    (s.ports.levels.length ≤ 512 → c = true → s.ports.cid.length ≠ 16 →
      exec (.buildData c n sy) s = .next (s.failed .eCid)) ∧
    (s.ports.syncUniverse = 0#16 →
      exec (.buildData c n false) s = exec (.buildData c n true) s)

/-- R153: the three declared lengths of a data packet and its size; the root's is 24 more than the framing's. -/
def Obligations.DataPacketDeclaredLengths : Prop :=
  ∀ (s : State) (c n sy : Bool), s.ports.levels.length ≤ 512 → (c = true → s.ports.cid.length = 16) →
    ∃ t, exec (.buildData c n sy) s = .next t ∧ t.status = .ok ∧
      declaredAt t.out 117 = 11 + s.ports.levels.length ∧ declaredAt t.out 38 = 77 + declaredAt t.out 117 ∧
      declaredAt t.out 38 = 88 + s.ports.levels.length ∧ declaredAt t.out 16 = 22 + (t.out.drop 38).length ∧
      declaredAt t.out 16 = 112 + s.ports.levels.length ∧ declaredAt t.out 16 = declaredAt t.out 38 + 24 ∧
      t.out.length = 128 + s.ports.levels.length

/-- R158: decoding a built data packet recovers what went in; two packets that are equal came from equal CIDs, universes,
sequences, levels and sync universes; the name only up to its 64 padded bytes. -/
def Obligations.DataPacketIsRecoverable : Prop :=
  (∀ (s : State) (c n sy : Bool), s.ports.levels.length ≤ 512 → (c = true → s.ports.cid.length = 16) →
    ∃ t, exec (.buildData c n sy) s = .next t ∧ t.status = .ok ∧
      (readDataPacket t.out).cid = s.effectiveCid c ∧
      (readDataPacket t.out).univ = s.ports.univ.toNat ∧
      (readDataPacket t.out).sequence = s.ports.sequence ∧
      (readDataPacket t.out).levels = s.ports.levels ∧
      s.ports.levels.length = declaredAt t.out 117 - 11 ∧ s.ports.levels.length = t.out.length - 128 ∧
      (readDataPacket t.out).syncUniverse = (s.effectiveSync sy).toNat ∧
      (readDataPacket t.out).priority = 100#8 ∧
      (readDataPacket t.out).name.take (min 64 (s.effectiveName n).length) = (s.effectiveName n).take 64) ∧
  (∀ (s s' t t' : State) (c n sy c' n' sy' : Bool), exec (.buildData c n sy) s = .next t →
    exec (.buildData c' n' sy') s' = .next t' → t.status = .ok → t'.status = .ok → t.out = t'.out →
      s.effectiveCid c = s'.effectiveCid c' ∧ s.ports.univ = s'.ports.univ ∧ s.ports.sequence = s'.ports.sequence ∧
      s.ports.levels = s'.ports.levels ∧ s.effectiveSync sy = s'.effectiveSync sy') ∧
  (∀ (s : State) (c sy : Bool),
    ∃ t u, exec (.buildData c true sy) s = .next t ∧
      exec (.buildData c true sy) { s with ports := { s.ports with name := Spec.nameField s.ports.name } } = .next u ∧
      t.SameLatch u)

/-- R157: a result is a function of the operands and the configuration, and two configurations with different default CIDs give
different packets for the same command when it supplies none, data and sync packets alike. -/
def Obligations.PacketsDependOnOperandsAndConfiguration : Prop :=
  (∀ (i : Instr) (s u : State), s.ports = u.ports → s.cfg = u.cfg →
    ∃ t v, exec i s = .next t ∧ exec i u = .next v ∧ t.status = v.status ∧ t.outN = v.outN ∧ t.out = v.out) ∧
  (∀ (s : State) (cfg : Config) (n sy : Bool), s.ports.levels.length ≤ 512 → s.cfg.defaultCid ≠ cfg.defaultCid →
    ∃ t v, exec (.buildData false n sy) s = .next t ∧ exec (.buildData false n sy) { s with cfg := cfg } = .next v ∧
      t.status = .ok ∧ v.status = .ok ∧ t.out ≠ v.out) ∧
  (∀ (s : State) (cfg : Config), s.cfg.defaultCid ≠ cfg.defaultCid →
    ∃ t v, exec (.buildSync false) s = .next t ∧ exec (.buildSync false) { s with cfg := cfg } = .next v ∧
      t.status = .ok ∧ v.status = .ok ∧ t.out ≠ v.out)

/-! BUILD.SYNC. -/

/-- R155 with the offset map R45: the whole sync packet, 51 bytes, and its one error. -/
def Obligations.BuildSyncEmitsThePacket : Prop :=
  (∀ c : Bool, decode (BitVec.ofNat 8 (8 * c.toNat + 7)) = .ok (.buildSync c)) ∧
  ∀ (s : State) (c : Bool),
    ((c = true → s.ports.cid.length = 16) →
      exec (.buildSync c) s =
        .next { s with
          status := .ok
          outN := 51
          out := Spec.syncPacket s.cfg (s.effectiveCid c) s.ports.sequence s.ports.syncUniverse }) ∧
    (c = true → s.ports.cid.length ≠ 16 → exec (.buildSync c) s = .next (s.failed .eCid))

/-- R156: the size of a sync packet and its two declared lengths, for every sequence and sync universe. -/
def Obligations.SyncPacketHasFixedSize : Prop :=
  ∀ (s : State) (c : Bool), (c = true → s.ports.cid.length = 16) →
    ∃ t, exec (.buildSync c) s = .next t ∧ t.status = .ok ∧ t.outN = 51 ∧ t.out.length = 38 + 13 ∧
      declaredAt t.out 16 = 35 ∧ declaredAt t.out 16 = 22 + 13 ∧ declaredAt t.out 38 = 11

/-! The builder against the layers. -/

/-- R160: a builder command and the sequence of layer commands it expands to (R79), run by a host that stops at the first error,
leave the same result, errors included. -/
def Obligations.BuildersEqualTheirExpansions : Prop :=
  (∀ (s : State) (cid name : Option Bytes) (univ : Half) (levels : Bytes) (sequence : Byte) (sync : Option Half),
    ∃ t u, issueCall (.buildData cid name univ levels sequence sync) s = .next t ∧
      hostRun
        (dataExpansion (cid.getD s.cfg.defaultCid.toList) (name.getD s.cfg.defaultName) univ levels sequence
          (sync.getD 0#16)) s = .next u ∧
      t.SameLatch u) ∧
  (∀ (s : State) (cid : Option Bytes) (sequence : Byte) (syncUniverse : Half),
    ∃ t u, issueCall (.buildSync cid sequence syncUniverse) s = .next t ∧
      hostRun (syncExpansion (cid.getD s.cfg.defaultCid.toList) sequence syncUniverse) s = .next u ∧ t.SameLatch u)

/-! Errors. -/

/-- R171: the codes, for every operation exactly when each error is reported, and that an error records its code only. -/
def Obligations.ErrorCausesAreExact : Prop :=
  (Status.ok.code = 0#2 ∧ Status.eLevels.code = 1#2 ∧ Status.eCid.code = 2#2 ∧ Status.eLength.code = 3#2) ∧
  ∀ (i : Instr) (s : State), ∃ t, exec i s = .next t ∧
    (t.status = .eLevels ↔
      512 < s.ports.levels.length ∧ (i = .dmpEnc ∨ ∃ c n sy, i = .buildData c n sy)) ∧
    (t.status = .eCid ↔
      s.ports.cid.length ≠ 16 ∧
        (i = .rootEnc ∨ i = .buildSync true ∨ (∃ n sy, i = .buildData true n sy ∧ s.ports.levels.length ≤ 512))) ∧
    (t.status = .eLength ↔
      (i = .lenEnc ∧ 4095 < s.ports.lenIn) ∨ (i = .frmEnc ∧ 4019 ≤ s.ports.nested.length) ∨
        (i = .rootEnc ∧ s.ports.cid.length = 16 ∧ 4074 ≤ s.ports.nested.length)) ∧
    (t.status ≠ .ok → t = s.failed t.status)

/-- R178: which error is reported when two causes hold, and that every other operation has at most one error it can report. -/
def Obligations.ErrorPriority : Prop :=
  (∀ (s : State) (n sy : Bool), 512 < s.ports.levels.length → s.ports.cid.length ≠ 16 →
    exec (.buildData true n sy) s = .next (s.failed .eLevels)) ∧
  (∀ s : State, s.ports.cid.length ≠ 16 → 4074 ≤ s.ports.nested.length →
    exec .rootEnc s = .next (s.failed .eCid)) ∧
  (∀ i : Instr, i ≠ .rootEnc → (∀ n sy, i ≠ .buildData true n sy) →
    ∃ e, ∀ s t : State, exec i s = .next t → t.status ≠ .ok → t.status = e)

/-- R176: after an error the block's state is exactly the state before it with the code in `STATUS`, `OUT` empty and `OUT_N` 0. -/
def Obligations.ErrorsArePrecise : Prop :=
  ∀ (i : Instr) (s t : State), exec i s = .next t → t.status ≠ .ok →
    t = { s with status := t.status, outN := 0, out := [] }

/-- R28: a command's result depends on its operands and the configuration only. -/
def Obligations.ResultsIgnoreHistory : Prop :=
  ∀ (i : Instr) (s : State) (status : Status) (outN : Nat) (out : Bytes) (issue : List HostMove),
    ∃ t u, exec i s = .next t ∧ exec i { s with status, outN, out, issue } = .next u ∧ t.SameLatch u

/-- The frame of every instruction: it writes `STATUS`, `OUT_N` and `OUT` and nothing else; every operand port and buffer, the
configuration and what the host does next are unchanged. -/
def Obligations.CommandsWriteOnlyTheLatch : Prop :=
  ∀ (i : Instr) (s : State), ∃ t, exec i s = .next t ∧
    t.ports = s.ports ∧ t.cfg = s.cfg ∧ t.issue = s.issue ∧ (t.status = .ok → t.outN = t.out.length)

/-- Which ports each operation reads: two presentations that agree on those have the same result, whatever the other ports
hold. -/
def Obligations.UnreadPortsAreIgnored : Prop :=
  ∀ (s : State) (q : Ports),
    (s.ports.lenIn = q.lenIn → ∃ t u, exec .lenEnc s = .next t ∧ exec .lenEnc { s with ports := q } = .next u ∧ t.SameLatch u) ∧
    (s.ports.levels = q.levels →
      ∃ t u, exec .dmpEnc s = .next t ∧ exec .dmpEnc { s with ports := q } = .next u ∧ t.SameLatch u) ∧
    (s.ports.name = q.name → s.ports.priority = q.priority → s.ports.sequence = q.sequence →
      s.ports.syncUniverse = q.syncUniverse → s.ports.univ = q.univ → s.ports.nested = q.nested →
      ∃ t u, exec .frmEnc s = .next t ∧ exec .frmEnc { s with ports := q } = .next u ∧ t.SameLatch u) ∧
    (s.ports.sequence = q.sequence → s.ports.syncUniverse = q.syncUniverse →
      ∃ t u, exec .synEnc s = .next t ∧ exec .synEnc { s with ports := q } = .next u ∧ t.SameLatch u) ∧
    (s.ports.cid = q.cid → s.ports.nested = q.nested →
      ∃ t u, exec .rootEnc s = .next t ∧ exec .rootEnc { s with ports := q } = .next u ∧ t.SameLatch u) ∧
    (∀ c n sy : Bool, s.ports.levels = q.levels → s.ports.univ = q.univ → s.ports.sequence = q.sequence →
      (c = true → s.ports.cid = q.cid) → (n = true → s.ports.name = q.name) →
      (sy = true → s.ports.syncUniverse = q.syncUniverse) →
      ∃ t u, exec (.buildData c n sy) s = .next t ∧ exec (.buildData c n sy) { s with ports := q } = .next u ∧
        t.SameLatch u) ∧
    (∀ c : Bool, s.ports.sequence = q.sequence → s.ports.syncUniverse = q.syncUniverse → (c = true → s.ports.cid = q.cid) →
      ∃ t u, exec (.buildSync c) s = .next t ∧ exec (.buildSync c) { s with ports := q } = .next u ∧ t.SameLatch u)

/-! Invariants and runs. -/

/-- Every step keeps the result latch consistent and the configuration as it was. -/
def Obligations.EveryStepKeepsTheLatchConsistent : Prop :=
  ∀ s t : State, s.Latched → step s = .next t → t.Latched ∧ t.cfg = s.cfg

/-- The reset state's latch is consistent. -/
def Obligations.ResetLatchIsConsistent : Prop := State.reset.Latched

/-- Every run over accepted moves ends, with nothing left to do and the configuration untouched. The list of moves is the model's
(log 4), and that a descriptor a reset abandons may be a reserved one is too (log 8). -/
def Obligations.AcceptedRunsComplete : Prop :=
  ∀ s : State, s.Accepted →
    ∃ t, Sys2Proof.core.run s.issue.length s = .next t ∧ t.issue = [] ∧ t.cfg = s.cfg ∧ (s.Latched → t.Latched)

/-- A run forgets the latch it started from: two blocks with one configuration that are given the same moves, at least one of
them, end with the same result, errors on the way included. The list of moves is the model's (log 4), and that a descriptor a reset abandons
may be a reserved one is too (log 8). -/
def Obligations.RunsForgetTheLatch : Prop :=
  ∀ s u : State, s.cfg = u.cfg → s.issue = u.issue → s.issue ≠ [] → s.Accepted →
    ∃ t v, Sys2Proof.core.run s.issue.length s = .next t ∧ Sys2Proof.core.run u.issue.length u = .next v ∧ t.SameLatch v

/-! The Transmitter (host model). -/

/-- R186 over any number of sends: packet `j` carries the counter's starting value plus `j`, modulo 256, and the counter ends
advanced once per send. That the sends of one Transmitter do not interleave is the model's premise (single writer, log 15). -/
def Obligations.SequenceNumbersCountTheSends : Prop :=
  ∀ (batch : List Bytes) (t : Transmitter) (s : State), (∀ l ∈ batch, l.length ≤ 512) →
    ∃ t' s' reports, Transmitter.sends (batch.map fun l => (l, none)) t s = .next (t', s', reports) ∧
      t' = { t with seq := t.seq + BitVec.ofNat 8 batch.length } ∧ reports.length = batch.length ∧
      ∀ j (h : j < reports.length), ∃ d, reports[j] = .sent d ∧ d.address = t.address ∧ d.port = t.port ∧
        byteAt d.payload 113 = t.seq + BitVec.ofNat 8 j ∧ wordAt d.payload 115 = t.univ.toNat

/-- R187: `send` sends nothing and keeps the counter after a validation error or a transport error. The host is
the model's, with one writer (log 15). -/
def Obligations.FailedSendKeepsTheCounter : Prop :=
  (∀ (t : Transmitter) (levels : Bytes) (failure : Option TransportError) (s : State), 512 < levels.length →
    ∃ r, t.send levels failure s = .next r ∧ r.host = t ∧ r.report = .invalid .eLevels) ∧
  (∀ (t : Transmitter) (levels : Bytes) (e : TransportError) (s : State), levels.length ≤ 512 →
    ∃ r, t.send levels (some e) s = .next r ∧ r.host = t ∧ r.report = .transport e)

/-- R188: the multicast address of a universe is `239.255.H.L`, unless the Transmitter is given another. -/
def Obligations.MulticastAddressOfAUniverse : Prop :=
  (∀ u : Half, multicastAddress u = ⟨239#8, 255#8, BitVec.ofNat 8 (u.toNat / 256), BitVec.ofNat 8 (u.toNat % 256)⟩) ∧
  (multicastAddress 1#16).dotted = "239.255.0.1" ∧ (multicastAddress 300#16).dotted = "239.255.1.44" ∧
  (∀ (u : Half) (given : Option Ipv4) (t : Transmitter), Transmitter.construct u given none none none none = .ok t →
    t.address = given.getD (multicastAddress u))

/-- A fresh Transmitter: counter 255, port 5568 and the derived address unless others are given; a socket that cannot be made
gives none. -/
def Obligations.FreshTransmitter : Prop :=
  ∀ (univ : Half) (address bindIp : Option Ipv4) (port : Option Half) (ttl : Option Nat),
    (∃ t, Transmitter.construct univ address port bindIp ttl none = .ok t ∧ t.univ = univ ∧ t.seq = 255#8 ∧
      t.port = port.getD 5568#16 ∧ t.address = address.getD (multicastAddress univ) ∧ t.bindIp = bindIp ∧ t.ttl = ttl) ∧
    (∀ e, Transmitter.construct univ address port bindIp ttl (some e) = .error e)

/-! Configuration. -/

/-- R6: every configuration holds the document's values of the fixed parameters, row by row. -/
def Obligations.FixedParametersHoldTheDocumentsValues : Prop :=
  ∀ cfg : Config,
    cfg.fixed.lenMax = 4095 ∧ cfg.fixed.lenValueBits = 12 ∧ cfg.fixed.lenFieldBytes = 2 ∧ cfg.fixed.maxLevels = 512 ∧
    cfg.fixed.cidBytes = 16 ∧ cfg.fixed.nameBytes = 64 ∧ cfg.fixed.dmpLenConst = 10 ∧ cfg.fixed.dmpStartcodeBytes = 1 ∧
    cfg.fixed.frmLenConst = 77 ∧ cfg.fixed.synLenValue = 11 ∧ cfg.fixed.rootLenConst = 22 ∧
    cfg.fixed.preambleSize = 0x0010#16 ∧ cfg.fixed.postambleSize = 0x0000#16 ∧
    cfg.fixed.acnPacketId =
      [0x41#8, 0x53#8, 0x43#8, 0x2D#8, 0x45#8, 0x31#8, 0x2E#8, 0x31#8, 0x37#8, 0x00#8, 0x00#8, 0x00#8] ∧
    cfg.fixed.vectorRoot = 0x00000004#32 ∧ cfg.fixed.vectorDataPacket = 0x00000002#32 ∧
    cfg.fixed.vectorSyncPacket = 0x00000001#32 ∧ cfg.fixed.vectorDmpSetProperty = 0x02#8 ∧
    cfg.fixed.dmpAddrDataType = 0xA1#8 ∧ cfg.fixed.dmpFirstAddr = 0x0000#16 ∧ cfg.fixed.dmpAddrInc = 0x0001#16 ∧
    cfg.fixed.dmxStartcode = 0x00#8 ∧ cfg.fixed.frmReserved = 0x0000#16 ∧ cfg.fixed.defaultPriority = 100#8 ∧
    cfg.fixed.priorityValidMax = 200#8

/-- R154: an absent optional operand acts exactly as its default supplied would: the configuration's CID (16 bytes) and name, sync
universe 0. -/
def Obligations.DefaultsActAsSuppliedOperands : Prop :=
  ∀ s : State,
    s.cfg.defaultCid.toList.length = 16 ∧
    (∀ n sy : Bool, ∃ t u, exec (.buildData false n sy) s = .next t ∧
      exec (.buildData true n sy) { s with ports := { s.ports with cid := s.cfg.defaultCid.toList } } = .next u ∧
      t.SameLatch u) ∧
    (∀ c sy : Bool, ∃ t u, exec (.buildData c false sy) s = .next t ∧
      exec (.buildData c true sy) { s with ports := { s.ports with name := s.cfg.defaultName } } = .next u ∧
      t.SameLatch u) ∧
    (∀ c n : Bool, ∃ t u, exec (.buildData c n false) s = .next t ∧
      exec (.buildData c n true) { s with ports := { s.ports with syncUniverse := 0#16 } } = .next u ∧ t.SameLatch u) ∧
    (∃ t u, exec (.buildSync false) s = .next t ∧
      exec (.buildSync true) { s with ports := { s.ports with cid := s.cfg.defaultCid.toList } } = .next u ∧ t.SameLatch u)
end

