-- ==== Sys2Proof/Laws/Config.lean ====
section
/-! SUPPORT. One lemma per fixed parameter: its value in every configuration (00_scope.md R6; 45_packet_builder.md R154), so that no
proof unfolds the table. -/

namespace Sys2Proof

@[simp] theorem Config.fixed_lenMax (cfg : Config) : cfg.fixed.lenMax = 4095 := by
  rw [cfg.fixed_is]; rfl
@[simp] theorem Config.fixed_lenValueBits (cfg : Config) : cfg.fixed.lenValueBits = 12 := by
  rw [cfg.fixed_is]; rfl
@[simp] theorem Config.fixed_lenFieldBytes (cfg : Config) : cfg.fixed.lenFieldBytes = 2 := by
  rw [cfg.fixed_is]; rfl
@[simp] theorem Config.fixed_maxLevels (cfg : Config) : cfg.fixed.maxLevels = 512 := by
  rw [cfg.fixed_is]; rfl
@[simp] theorem Config.fixed_cidBytes (cfg : Config) : cfg.fixed.cidBytes = 16 := by
  rw [cfg.fixed_is]; rfl
@[simp] theorem Config.fixed_nameBytes (cfg : Config) : cfg.fixed.nameBytes = 64 := by
  rw [cfg.fixed_is]; rfl
@[simp] theorem Config.fixed_dmpLenConst (cfg : Config) : cfg.fixed.dmpLenConst = 10 := by
  rw [cfg.fixed_is]; rfl
@[simp] theorem Config.fixed_dmpStartcodeBytes (cfg : Config) : cfg.fixed.dmpStartcodeBytes = 1 := by
  rw [cfg.fixed_is]; rfl
@[simp] theorem Config.fixed_frmLenConst (cfg : Config) : cfg.fixed.frmLenConst = 77 := by
  rw [cfg.fixed_is]; rfl
@[simp] theorem Config.fixed_synLenValue (cfg : Config) : cfg.fixed.synLenValue = 11 := by
  rw [cfg.fixed_is]; rfl
@[simp] theorem Config.fixed_rootLenConst (cfg : Config) : cfg.fixed.rootLenConst = 22 := by
  rw [cfg.fixed_is]; rfl
@[simp] theorem Config.fixed_preambleSize (cfg : Config) : cfg.fixed.preambleSize = 0x0010#16 := by
  rw [cfg.fixed_is]; rfl
@[simp] theorem Config.fixed_postambleSize (cfg : Config) : cfg.fixed.postambleSize = 0x0000#16 := by
  rw [cfg.fixed_is]; rfl
@[simp] theorem Config.fixed_acnPacketId (cfg : Config) :
    cfg.fixed.acnPacketId =
      [0x41#8, 0x53#8, 0x43#8, 0x2D#8, 0x45#8, 0x31#8, 0x2E#8, 0x31#8, 0x37#8, 0x00#8, 0x00#8, 0x00#8] := by
  rw [cfg.fixed_is]; rfl
@[simp] theorem Config.fixed_vectorRoot (cfg : Config) : cfg.fixed.vectorRoot = 0x00000004#32 := by
  rw [cfg.fixed_is]; rfl
@[simp] theorem Config.fixed_vectorDataPacket (cfg : Config) : cfg.fixed.vectorDataPacket = 0x00000002#32 := by
  rw [cfg.fixed_is]; rfl
@[simp] theorem Config.fixed_vectorSyncPacket (cfg : Config) : cfg.fixed.vectorSyncPacket = 0x00000001#32 := by
  rw [cfg.fixed_is]; rfl
@[simp] theorem Config.fixed_vectorDmpSetProperty (cfg : Config) : cfg.fixed.vectorDmpSetProperty = 0x02#8 := by
  rw [cfg.fixed_is]; rfl
@[simp] theorem Config.fixed_dmpAddrDataType (cfg : Config) : cfg.fixed.dmpAddrDataType = 0xA1#8 := by
  rw [cfg.fixed_is]; rfl
@[simp] theorem Config.fixed_dmpFirstAddr (cfg : Config) : cfg.fixed.dmpFirstAddr = 0x0000#16 := by
  rw [cfg.fixed_is]; rfl
@[simp] theorem Config.fixed_dmpAddrInc (cfg : Config) : cfg.fixed.dmpAddrInc = 0x0001#16 := by
  rw [cfg.fixed_is]; rfl
@[simp] theorem Config.fixed_dmxStartcode (cfg : Config) : cfg.fixed.dmxStartcode = 0x00#8 := by
  rw [cfg.fixed_is]; rfl
@[simp] theorem Config.fixed_frmReserved (cfg : Config) : cfg.fixed.frmReserved = 0x0000#16 := by
  rw [cfg.fixed_is]; rfl
@[simp] theorem Config.fixed_defaultPriority (cfg : Config) : cfg.fixed.defaultPriority = 100#8 := by
  rw [cfg.fixed_is]; rfl
@[simp] theorem Config.fixed_priorityValidMax (cfg : Config) : cfg.fixed.priorityValidMax = 200#8 := by
  rw [cfg.fixed_is]; rfl
@[simp] theorem Config.fixed_defaultSyncUniverse (cfg : Config) : cfg.fixed.defaultSyncUniverse = 0x0000#16 := by
  rw [cfg.fixed_is]; rfl

/-- The priority a host gives FRM.ENC when it expands BUILD.DATA (30_encoding.md R79). -/
@[simp] theorem FixedParams.document_defaultPriority : FixedParams.document.defaultPriority = 100#8 := rfl

end Sys2Proof
end

