-- ==== Sys2Proof/Laws/State.lean ====
section
/-! SUPPORT. One lemma per field per update of the state, each true by definition, so that no proof unfolds a record update. -/

namespace Sys2Proof.Machine

@[simp] theorem State.succeed_ports (s : State) (b : Bytes) : (s.succeed b).ports = s.ports := rfl
@[simp] theorem State.succeed_status (s : State) (b : Bytes) : (s.succeed b).status = .ok := rfl
@[simp] theorem State.succeed_outN (s : State) (b : Bytes) : (s.succeed b).outN = b.length := rfl
@[simp] theorem State.succeed_out (s : State) (b : Bytes) : (s.succeed b).out = b := rfl
@[simp] theorem State.succeed_cfg (s : State) (b : Bytes) : (s.succeed b).cfg = s.cfg := rfl
@[simp] theorem State.succeed_issue (s : State) (b : Bytes) : (s.succeed b).issue = s.issue := rfl

@[simp] theorem State.takeError_ports (s : State) (c : ErrCode) : (s.takeError c).ports = s.ports := rfl
@[simp] theorem State.takeError_status (s : State) (c : ErrCode) : (s.takeError c).status = c.status := rfl
@[simp] theorem State.takeError_outN (s : State) (c : ErrCode) : (s.takeError c).outN = 0 := rfl
@[simp] theorem State.takeError_out (s : State) (c : ErrCode) : (s.takeError c).out = [] := rfl
@[simp] theorem State.takeError_cfg (s : State) (c : ErrCode) : (s.takeError c).cfg = s.cfg := rfl
@[simp] theorem State.takeError_issue (s : State) (c : ErrCode) : (s.takeError c).issue = s.issue := rfl

@[simp] theorem State.present_ports (s : State) (p : Ports) (r : List HostMove) : (s.present p r).ports = p := rfl
@[simp] theorem State.present_status (s : State) (p : Ports) (r : List HostMove) : (s.present p r).status = s.status := rfl
@[simp] theorem State.present_outN (s : State) (p : Ports) (r : List HostMove) : (s.present p r).outN = s.outN := rfl
@[simp] theorem State.present_out (s : State) (p : Ports) (r : List HostMove) : (s.present p r).out = s.out := rfl
@[simp] theorem State.present_cfg (s : State) (p : Ports) (r : List HostMove) : (s.present p r).cfg = s.cfg := rfl
@[simp] theorem State.present_issue (s : State) (p : Ports) (r : List HostMove) : (s.present p r).issue = r := rfl

@[simp] theorem State.resetLatch_ports (s : State) : s.resetLatch.ports = s.ports := rfl
@[simp] theorem State.resetLatch_status (s : State) : s.resetLatch.status = .ok := rfl
@[simp] theorem State.resetLatch_outN (s : State) : s.resetLatch.outN = 0 := rfl
@[simp] theorem State.resetLatch_out (s : State) : s.resetLatch.out = [] := rfl
@[simp] theorem State.resetLatch_cfg (s : State) : s.resetLatch.cfg = s.cfg := rfl
@[simp] theorem State.resetLatch_issue (s : State) : s.resetLatch.issue = s.issue := rfl

@[simp] theorem State.latch_ok (s : State) (b : Bytes) : s.latch (.ok b) = s.succeed b := rfl
@[simp] theorem State.latch_err (s : State) (c : ErrCode) : s.latch (.err c) = s.takeError c := rfl

@[simp] theorem State.latch_ports (s : State) (r : Result) : (s.latch r).ports = s.ports := by cases r <;> rfl
@[simp] theorem State.latch_cfg (s : State) (r : Result) : (s.latch r).cfg = s.cfg := by cases r <;> rfl
@[simp] theorem State.latch_issue (s : State) (r : Result) : (s.latch r).issue = s.issue := by cases r <;> rfl

/-- The status a latch holds is the result's (R26). -/
@[simp] theorem State.latch_status (s : State) (r : Result) : (s.latch r).status = r.status := by cases r <;> rfl

/-- The 2-bit codes and the status values are in bijection (R26, log 16). -/
@[simp] theorem Status.ofCode_code (x : Status) : Status.ofCode x.code = x := by cases x <;> rfl
@[simp] theorem Status.code_ofCode : ∀ b : BitVec 2, (Status.ofCode b).code = b := by decide

/-- The latch depends on the result alone (R28). -/
theorem State.latch_sameLatch (s t : State) (r : Result) : (s.latch r).SameLatch (t.latch r) := by
  cases r <;> exact ⟨rfl, rfl, rfl⟩

end Sys2Proof.Machine
end

