-- ==== Sys2Proof/Laws/Ops.lean ====
section
/-! SUPPORT. One lemma per shared operation: byte order, padding, buffer reads and appends, sequencing of stages, the length field. -/

namespace Sys2Proof.Machine

@[simp] theorem be16_length (v : Half) : (be16 v).length = 2 := rfl
@[simp] theorem be32_length (v : Quad) : (be32 v).length = 4 := rfl

/-- `be16` in arithmetic: the high byte is the quotient by 256, the low byte the remainder (R9). -/
theorem be16_eq_div_mod (v : Half) : be16 v = [BitVec.ofNat 8 (v.toNat / 256), BitVec.ofNat 8 (v.toNat % 256)] := by
  have h : v.toNat < 65536 := v.isLt
  simp only [be16, List.cons.injEq, and_true]
  refine ⟨BitVec.eq_of_toNat_eq ?_, BitVec.eq_of_toNat_eq ?_⟩
  · simp [BitVec.extractLsb'_toNat, Nat.shiftRight_eq_div_pow]
  · simp [BitVec.extractLsb'_toNat]

@[simp] theorem padTo_length (n : Nat) (b : Bytes) : (padTo n b).length = n := by
  induction n generalizing b with
  | zero => rfl
  | succ n ih => simp [padTo, ih]

/-- `padTo` is R9's `(b ++ zeros(N))[0..N)`. -/
theorem padTo_eq_take (n : Nat) (b : Bytes) : padTo n b = (b ++ zeros n).take n := by
  induction n generalizing b with
  | zero => simp [padTo]
  | succ n ih =>
    cases b with
    | nil => simp [padTo, ih, List.replicate_succ]
    | cons x b =>
      have : (b ++ zeros (n + 1)).take n = (b ++ zeros n).take n := by
        simp only [List.take_append, List.take_replicate]
        congr 2
        omega
      simp [padTo, ih, this]

/-- Reading a whole buffer gives the buffer: the verbatim copy of R48. -/
@[simp] theorem readWhole_eq (b : Bytes) : readWhole b = b := by
  simp [readWhole, bufRead]

@[simp] theorem Ports.readLevels_eq (p : Ports) : p.readLevels = p.levels := readWhole_eq _
@[simp] theorem Ports.readCid_eq (p : Ports) : p.readCid = p.cid := readWhole_eq _
@[simp] theorem Ports.readName_eq (p : Ports) : p.readName = p.name := readWhole_eq _
@[simp] theorem Ports.readNested_eq (p : Ports) : p.readNested = p.nested := readWhole_eq _

/-- Emissions in order into an empty buffer are one concatenation (R47). -/
theorem emitAll_eq_flatten (bs : List Bytes) : emitAll bs = bs.flatten := by
  have h : ∀ acc : Bytes, bs.foldl emit acc = acc ++ bs.flatten := by
    induction bs with
    | nil => simp
    | cons b bs ih => intro acc; simp [ih, emit]
  simpa [emitAll] using h []

@[simp] theorem Result.andThen_ok (b : Bytes) (f : Bytes → Result) : (Result.ok b).andThen f = f b := rfl
@[simp] theorem Result.andThen_err (c : ErrCode) (f : Bytes → Result) : (Result.err c).andThen f = .err c := rfl

/-- Everything a sequence of two parts can do (R151): both succeed, or the first error is the result. -/
theorem Result.andThen_cases {r : Result} {f : Bytes → Result} {q : Result} (h : r.andThen f = q) :
    (∃ b, r = .ok b ∧ f b = q) ∨ (∃ c, r = .err c ∧ q = .err c) := by
  cases r with
  | ok b => exact .inl ⟨b, rfl, h⟩
  | err c => exact .inr ⟨c, rfl, h.symm⟩

@[simp] theorem bigEndian_length (n v : Nat) : (bigEndian n v).length = n := by
  induction n with
  | zero => rfl
  | succ n ih => simp [bigEndian, ih]

/-- Two bytes of a number: its quotient and remainder by 256. -/
theorem bigEndian_two (v : Nat) : bigEndian 2 v = [BitVec.ofNat 8 (v / 256), BitVec.ofNat 8 (v % 256)] := by
  simp [bigEndian, Nat.shiftRight_eq_div_pow, ← BitVec.toNat_inj]

/-- The flag nibble and the 12 bits of an accepted value do not overlap (R60, R159 (d)). -/
theorem lenNumber_of_le (cfg : Config) {v : Nat} (h : v ≤ 4095) : lenNumber cfg v = cfg.lenFlags.toNat * 4096 + v := by
  have hor := Nat.two_pow_add_eq_or_of_lt (i := 12) (by omega : v < 2 ^ 12) cfg.lenFlags.toNat
  simp only [lenNumber, Config.fixed_lenValueBits, Nat.shiftLeft_eq]
  rw [Nat.mul_comm, ← hor]

/-- Everything the length codec can do on an accepted value: the two bytes of R60, in arithmetic (R90). -/
theorem lenField_eq_lenBytes (cfg : Config) {v : Nat} (h : v ≤ 4095) : lenField cfg v = .ok (Spec.lenBytes cfg v) := by
  rw [lenField, if_neg (by simpa using h), lenNumber_of_le cfg h, Config.fixed_lenFieldBytes, bigEndian_two, Spec.lenBytes,
    show (cfg.lenFlags.toNat * 4096 + v) / 256 = cfg.lenFlags.toNat * 16 + v / 256 by omega,
    show (cfg.lenFlags.toNat * 4096 + v) % 256 = v % 256 by omega]

/-- And above 4095: rejected, never truncated (R90, R174). -/
theorem lenField_of_gt (cfg : Config) {v : Nat} (h : 4095 < v) : lenField cfg v = .err .eLength := if_pos (by simpa using h)

/-- R90's own form of the first byte, `(LEN_FLAGS << 4) | v[11:8]`, is that of R60. -/
theorem lenBytes_high (cfg : Config) {v : Nat} (h : v ≤ 4095) :
    BitVec.ofNat 8 (cfg.lenFlags.toNat * 16 + v / 256) = (cfg.lenFlags.setWidth 8 <<< 4) ||| BitVec.ofNat 8 (v / 256) := by
  have hf : cfg.lenFlags.toNat < 16 := cfg.lenFlags.isLt
  have hor := Nat.two_pow_add_eq_or_of_lt (i := 4) (by omega : v / 256 < 2 ^ 4) cfg.lenFlags.toNat
  apply BitVec.eq_of_toNat_eq
  simp only [BitVec.toNat_or, BitVec.toNat_shiftLeft, BitVec.toNat_setWidth, BitVec.toNat_ofNat, Nat.shiftLeft_eq]
  rw [Nat.mod_eq_of_lt (by omega : cfg.lenFlags.toNat < 2 ^ 8), Nat.mod_eq_of_lt (by omega : cfg.lenFlags.toNat * 2 ^ 4 < 2 ^ 8),
    Nat.mod_eq_of_lt (by omega : v / 256 < 2 ^ 8), Nat.mod_eq_of_lt (by omega), Nat.mul_comm cfg.lenFlags.toNat (2 ^ 4), ← hor]
  omega

@[simp] theorem defaultCidBytes_length (cfg : Config) : cfg.defaultCidBytes.length = 16 := rfl
@[simp] theorem synReservedBytes_length (cfg : Config) : cfg.synReservedBytes.length = 4 := rfl

theorem defaultCidBytes_eq (cfg : Config) : cfg.defaultCidBytes = cfg.defaultCid.toList := by
  refine List.ext_getElem (by simp) fun i h _ => ?_
  simp only [Config.defaultCidBytes, List.getElem_ofFn]
  rfl

theorem synReservedBytes_eq (cfg : Config) : cfg.synReservedBytes = cfg.synReserved.toList := by
  refine List.ext_getElem (by simp) fun i h _ => ?_
  simp only [Config.synReservedBytes, List.getElem_ofFn]
  rfl

/-- `OPTIONS_VALUE & OPT_FORCE_SYNC` is the force-synchronization bit itself (00_scope.md R7). -/
theorem optionsValue_and_forceSync (cfg : Config) : cfg.optionsValue &&& cfg.optForceSync = cfg.optForceSync := by
  apply BitVec.eq_of_getLsbD_eq
  intro i _
  simp only [Config.optionsValue, BitVec.getLsbD_and, BitVec.getLsbD_or]
  cases cfg.optForceSync.getLsbD i <;> simp

end Sys2Proof.Machine
end

