-- ==== Sys2Proof/Laws/Layers.lean ====
section
/-! SUPPORT. One lemma per encoder saying everything it can do: the bytes of its wire format when it accepts, its error when it does
not. -/

namespace Sys2Proof.Machine

theorem be16_eq_twoBytes (v : Half) : be16 v = Spec.twoBytes v.toNat := be16_eq_div_mod v

@[simp] theorem Spec.lenBytes_length (cfg : Config) (v : Nat) : (Spec.lenBytes cfg v).length = 2 := rfl
@[simp] theorem Spec.twoBytes_length (v : Nat) : (Spec.twoBytes v).length = 2 := rfl
@[simp] theorem Spec.reservedBytes_length (cfg : Config) : (Spec.reservedBytes cfg).length = 4 := by simp [Spec.reservedBytes]

@[simp] theorem Spec.nameField_length (b : Bytes) : (Spec.nameField b).length = 64 := by
  simp [Spec.nameField]

@[simp] theorem Spec.dmpBytes_length (cfg : Config) (l : Bytes) : (Spec.dmpBytes cfg l).length = 11 + l.length := by
  simp [Spec.dmpBytes]
  omega

@[simp] theorem Spec.frmBytes_length (cfg : Config) (name : Bytes) (p q : Byte) (y u : Half) (d : Bytes) :
    (Spec.frmBytes cfg name p q y u d).length = 79 + d.length := by
  simp [Spec.frmBytes]
  omega

@[simp] theorem Spec.synBytes_length (cfg : Config) (q : Byte) (y : Half) : (Spec.synBytes cfg q y).length = 13 := by
  simp [Spec.synBytes]

theorem Spec.rootBytes_length (cfg : Config) {cid : Bytes} (n : Bytes) (h : cid.length = 16) :
    (Spec.rootBytes cfg cid n).length = 38 + n.length := by
  simp [Spec.rootBytes, Spec.rootPrefix, h]
  omega

/-- The DMP layer accepts up to 512 levels (R100). -/
theorem dmpPdu_of_le (cfg : Config) {l : Bytes} (h : l.length ≤ 512) : dmpPdu cfg l = .ok (Spec.dmpBytes cfg l) := by
  have hn : (1 + l.length) % 65536 = 1 + l.length := Nat.mod_eq_of_lt (by omega)
  rw [dmpPdu, if_neg (by simpa using h)]
  simp only [Config.fixed_dmpLenConst, Config.fixed_dmpStartcodeBytes]
  rw [lenField_eq_lenBytes cfg (by omega)]
  simp [emitAll_eq_flatten, be16_eq_twoBytes, hn, Spec.dmpBytes, Spec.twoBytes]

/-- And no more (R172). -/
theorem dmpPdu_of_gt (cfg : Config) {l : Bytes} (h : 512 < l.length) : dmpPdu cfg l = .err .eLevels := if_pos (by simpa using h)

/-- The framing layer accepts a nested buffer of up to 4018 bytes (R110). -/
theorem frmPdu_of_le (cfg : Config) (name : Bytes) (p q : Byte) (y u : Half) {d : Bytes} (h : 77 + d.length ≤ 4095) :
    frmPdu cfg name p q y u d = .ok (Spec.frmBytes cfg name p q y u d) := by
  rw [frmPdu, Config.fixed_frmLenConst, lenField_eq_lenBytes cfg h]
  simp [emitAll_eq_flatten, be16_eq_twoBytes, padTo_eq_take, Spec.frmBytes, Spec.nameField, Spec.twoBytes, be32]

/-- And no more (R110). -/
theorem frmPdu_of_gt (cfg : Config) (name : Bytes) (p q : Byte) (y u : Half) {d : Bytes} (h : 4095 < 77 + d.length) :
    frmPdu cfg name p q y u d = .err .eLength := by
  rw [frmPdu, Config.fixed_frmLenConst, lenField_of_gt cfg h, Result.andThen_err]

/-- The sync framing layer always succeeds (R125). -/
theorem synPdu_eq (cfg : Config) (q : Byte) (y : Half) : synPdu cfg q y = .ok (Spec.synBytes cfg q y) := by
  rw [synPdu, Config.fixed_synLenValue, lenField_eq_lenBytes cfg (by decide)]
  simp [emitAll_eq_flatten, be16_eq_twoBytes, synReservedBytes_eq, Spec.synBytes, Spec.reservedBytes, be32]

/-- The root layer rejects a CID of another size than 16 first (R135, R137). -/
theorem rootPdu_of_cid (cfg : Config) {cid : Bytes} (n : Bytes) (h : cid.length ≠ 16) : rootPdu cfg cid n = .err .eCid :=
  if_pos (by simpa using h)

/-- Then it accepts a nested buffer of up to 4073 bytes (R135). -/
theorem rootPdu_of_le (cfg : Config) {cid n : Bytes} (hc : cid.length = 16) (h : 22 + n.length ≤ 4095) :
    rootPdu cfg cid n = .ok (Spec.rootBytes cfg cid n) := by
  rw [rootPdu, if_neg (by simpa using hc), Config.fixed_rootLenConst, lenField_eq_lenBytes cfg h]
  simp [emitAll_eq_flatten, Spec.rootBytes, Spec.rootPrefix, be16, be32]

/-- And no more (R135). -/
theorem rootPdu_of_gt (cfg : Config) {cid n : Bytes} (hc : cid.length = 16) (h : 4095 < 22 + n.length) :
    rootPdu cfg cid n = .err .eLength := by
  rw [rootPdu, if_neg (by simpa using hc), Config.fixed_rootLenConst, lenField_of_gt cfg h, Result.andThen_err]

theorem cidOr_eq_effective (s : State) (c : Bool) : s.ports.cidOr s.cfg c = s.effectiveCid c := by
  cases c <;> simp [Ports.cidOr, State.effectiveCid, defaultCidBytes_eq]

theorem nameOr_eq_effective (s : State) (n : Bool) : s.ports.nameOr s.cfg n = s.effectiveName n := by
  cases n <;> simp [Ports.nameOr, State.effectiveName]

theorem syncOr_eq_effective (s : State) (y : Bool) : s.ports.syncOr s.cfg y = s.effectiveSync y := by
  simp [Ports.syncOr, State.effectiveSync]

end Sys2Proof.Machine
end

