-- ==== Sys2Proof/Laws/Step.lean ====
section
/-! SUPPORT. Everything a command and a step can do, said once. -/

namespace Sys2Proof.Machine

/-- The pure function `exec(config, command)` of 10_state.md R26. -/
def commandResult (i : Instr) (cfg : Config) (p : Ports) : Result :=
  match i with
  | .lenEnc => lenEncResult cfg p
  | .dmpEnc => dmpEncResult cfg p
  | .frmEnc => frmEncResult cfg p
  | .synEnc => synEncResult cfg p
  | .rootEnc => rootEncResult cfg p
  | .buildData c n sy => buildDataResult cfg c n sy p
  | .buildSync c => buildSyncResult cfg c p

/-- `step(state, command) = latch(exec(config, command))` (R26): every meaning latches its pure result. -/
theorem exec_eq_latch (i : Instr) (s : State) : exec i s = .next (s.latch (commandResult i s.cfg s.ports)) := by
  cases i <;> rfl

/-- What a command that answers a next state did. -/
theorem exec_eq_next {i : Instr} {s t : State} (h : exec i s = .next t) : t = s.latch (commandResult i s.cfg s.ports) := by
  rw [exec_eq_latch] at h
  exact (Host.Outcome.next.inj h).symm

/-- Everything a step that answers a next state can have done: idle, run a command, or reset (with or without an abandoned
command). -/
theorem step_cases {s t : State} (h : step s = .next t) :
    (s.issue = [] ∧ t = s) ∨
    (∃ p rest i, s.issue = .command p :: rest ∧ decode p.cmd = .ok i ∧
      t = (s.present p rest).latch (commandResult i s.cfg p)) ∨
    (∃ rest, s.issue = .reset :: rest ∧ t = (s.present s.ports rest).resetLatch) ∨
    (∃ p rest, s.issue = .resetDuring p :: rest ∧ t = (s.present p rest).resetLatch) := by
  unfold step at h
  split at h
  · rename_i hi
    exact .inl ⟨hi, (Host.Outcome.next.inj h).symm⟩
  · rename_i p rest hi
    split at h
    · rename_i i hd
      exact .inr (.inl ⟨p, rest, i, hi, hd, exec_eq_next h⟩)
    · exact absurd h (by simp)
  · rename_i rest hi
    exact .inr (.inr (.inl ⟨rest, hi, (Host.Outcome.next.inj h).symm⟩))
  · rename_i p rest hi
    exact .inr (.inr (.inr ⟨p, rest, hi, (Host.Outcome.next.inj h).symm⟩))

/-- A step on a presented command. -/
theorem step_command {s : State} {p : Ports} {rest : List HostMove} {i : Instr} (hi : s.issue = .command p :: rest)
    (hd : decode p.cmd = .ok i) : step s = exec i (s.present p rest) := by
  simp [step, hi, hd]

/-- The decoder and the well-formedness check, written apart, accept the same descriptors (R76). -/
theorem decode_accepts_iff (cmd : Byte) : (∃ i, decode cmd = .ok i) ↔ (descriptorOf cmd).wellFormed = true := by
  have h : ∀ b : BitVec 8, (match decode b with | .ok _ => true | .reserved _ => false) = (descriptorOf b).wellFormed := by
    decide
  rw [← h cmd]
  cases decode cmd <;> simp

end Sys2Proof.Machine
end

