-- ==== Sys2Proof/Laws/Readback.lean ====
section
/-! SUPPORT. The reading functions in arithmetic (40_length_codec.md R92), and the nesting of the layers' formats in the packets
(30_encoding.md R70). -/

namespace Sys2Proof.Machine

/-- `len_decode` in arithmetic: the low nibble of the first byte, then the second byte. -/
theorem lenDecode_eq (b0 b1 : Byte) : lenDecode b0 b1 = b0.toNat % 16 * 256 + b1.toNat := by
  have h1 : b1.toNat < 2 ^ 8 := b1.isLt
  have hor := Nat.two_pow_add_eq_or_of_lt (i := 8) h1 (b0.toNat % 16)
  have hm : b0.toNat &&& 15 = b0.toNat % 16 := Nat.and_two_pow_sub_one_eq_mod b0.toNat 4
  simp only [lenDecode, BitVec.toNat_and, BitVec.toNat_ofNat, Nat.shiftLeft_eq]
  norm_num
  rw [hm, Nat.mul_comm, ← hor]

/-- `len_flags` in arithmetic: the high nibble. -/
theorem lenFlagsOf_toNat (b0 : Byte) : (lenFlagsOf b0).toNat = b0.toNat / 16 := by
  have := b0.isLt
  simp [lenFlagsOf, Nat.shiftRight_eq_div_pow]
  omega

/-- Decoding the arithmetic form of a length field. -/
theorem lenDecode_lenBytes (cfg : Config) {v : Nat} (h : v ≤ 4095) :
    lenDecode (BitVec.ofNat 8 (cfg.lenFlags.toNat * 16 + v / 256)) (BitVec.ofNat 8 (v % 256)) = v := by
  have := cfg.lenFlags.isLt
  rw [lenDecode_eq]
  simp
  omega

/-- A data packet is Root( Framing( DMP( levels ) ) ) (R70). -/
theorem rootBytes_frmBytes_dmpBytes (cfg : Config) (cid name : Bytes) (u y : Half) (l : Bytes) (q : Byte) :
    Spec.rootBytes cfg cid (Spec.frmBytes cfg name 100#8 q y u (Spec.dmpBytes cfg l)) =
      Spec.dataPacket cfg cid name u l q y := by
  have e1 : 22 + (79 + (11 + l.length)) = 112 + l.length := by omega
  have e2 : 77 + (11 + l.length) = 88 + l.length := by omega
  have e3 : 10 + 1 + l.length = 11 + l.length := by omega
  unfold Spec.rootBytes
  rw [Spec.frmBytes_length, Spec.dmpBytes_length, e1]
  unfold Spec.frmBytes
  rw [Spec.dmpBytes_length, e2]
  unfold Spec.dmpBytes Spec.dataPacket
  rw [e3]
  simp only [Spec.rootPrefix, List.append_assoc, List.cons_append, List.nil_append]

/-- A sync packet is Root( SyncFraming ) (R70). -/
theorem rootBytes_synBytes (cfg : Config) (cid : Bytes) (q : Byte) (y : Half) :
    Spec.rootBytes cfg cid (Spec.synBytes cfg q y) = Spec.syncPacket cfg cid q y := by
  unfold Spec.rootBytes
  rw [Spec.synBytes_length]
  unfold Spec.synBytes Spec.syncPacket
  simp only [Spec.rootPrefix, List.append_assoc, List.cons_append, List.nil_append]

/-- The CID a command uses is 16 bytes when none is supplied (R154). -/
theorem effectiveCid_length {s : State} {c : Bool} (h : c = true → s.ports.cid.length = 16) :
    (s.effectiveCid c).length = 16 := by
  cases c
  · simp [State.effectiveCid]
  · simpa [State.effectiveCid] using h

/-- Everything BUILD.DATA can do (R152): its packet, -/
theorem buildDataResult_of_le {s : State} {c n sy : Bool} (h : s.ports.levels.length ≤ 512)
    (hc : c = true → s.ports.cid.length = 16) :
    buildDataResult s.cfg c n sy s.ports =
      .ok (Spec.dataPacket s.cfg (s.effectiveCid c) (s.effectiveName n) s.ports.univ s.ports.levels s.ports.sequence
        (s.effectiveSync sy)) := by
  rw [buildDataResult, Ports.readLevels_eq, dmpPdu_of_le _ h, Result.andThen_ok, frmPdu_of_le _ _ _ _ _ _ (by simp; omega),
    Result.andThen_ok, cidOr_eq_effective, rootPdu_of_le _ (effectiveCid_length hc) (by simp; omega), nameOr_eq_effective,
    syncOr_eq_effective, Config.fixed_defaultPriority, rootBytes_frmBytes_dmpBytes]

/-- or `E_LEVELS`, -/
theorem buildDataResult_of_gt {s : State} {c n sy : Bool} (h : 512 < s.ports.levels.length) :
    buildDataResult s.cfg c n sy s.ports = .err .eLevels := by
  rw [buildDataResult, Ports.readLevels_eq, dmpPdu_of_gt _ h, Result.andThen_err]

/-- or `E_CID`. -/
theorem buildDataResult_of_cid {s : State} {n sy : Bool} (h : s.ports.levels.length ≤ 512) (hc : s.ports.cid.length ≠ 16) :
    buildDataResult s.cfg true n sy s.ports = .err .eCid := by
  rw [buildDataResult, Ports.readLevels_eq, dmpPdu_of_le _ h, Result.andThen_ok, frmPdu_of_le _ _ _ _ _ _ (by simp; omega),
    Result.andThen_ok, rootPdu_of_cid _ _ (by simpa [Ports.cidOr] using hc)]

/-- Everything BUILD.SYNC can do (R155): its packet, -/
theorem buildSyncResult_of_cid16 {s : State} {c : Bool} (hc : c = true → s.ports.cid.length = 16) :
    buildSyncResult s.cfg c s.ports =
      .ok (Spec.syncPacket s.cfg (s.effectiveCid c) s.ports.sequence s.ports.syncUniverse) := by
  rw [buildSyncResult, synPdu_eq, Result.andThen_ok, cidOr_eq_effective, rootPdu_of_le _ (effectiveCid_length hc) (by simp),
    rootBytes_synBytes]

/-- or `E_CID`. -/
theorem buildSyncResult_of_cid {s : State} (hc : s.ports.cid.length ≠ 16) :
    buildSyncResult s.cfg true s.ports = .err .eCid := by
  rw [buildSyncResult, synPdu_eq, Result.andThen_ok, rootPdu_of_cid _ _ (by simpa [Ports.cidOr] using hc)]

end Sys2Proof.Machine
end

