-- ==== Sys2Proof/Laws/Calls.lean ====
section
/-! SUPPORT. A host's calls: what a call presents decodes to its instruction, and what it leaves. -/

namespace Sys2Proof.Machine

/-- The descriptor a call drives decodes to the call's instruction, its flags saying which optional operands it has (R78). -/
theorem decode_callPorts (c : Call) : decode c.ports.cmd = .ok c.instr := by
  have hd : ∀ c n sy : Bool, decode (encode (.buildData c n sy)) = .ok (.buildData c n sy) := by decide
  have hs : ∀ c : Bool, decode (encode (.buildSync c)) = .ok (.buildSync c) := by decide
  cases c with
  | len _ => exact (by decide : decode (encode .lenEnc) = .ok .lenEnc)
  | dmp _ => exact (by decide : decode (encode .dmpEnc) = .ok .dmpEnc)
  | frm _ _ _ _ _ _ => exact (by decide : decode (encode .frmEnc) = .ok .frmEnc)
  | syn _ _ => exact (by decide : decode (encode .synEnc) = .ok .synEnc)
  | root _ _ => exact (by decide : decode (encode .rootEnc) = .ok .rootEnc)
  | buildData cid name _ _ _ sync => exact hd cid.isSome name.isSome sync.isSome
  | buildSync cid _ _ => exact hs cid.isSome

/-- Everything a call can do: latch its result. -/
theorem issueCall_eq_latch (c : Call) (s : State) :
    issueCall c s = .next ((s.present c.ports []).latch (commandResult c.instr s.cfg c.ports)) := by
  have h : issueCall c s = exec c.instr (({ s with issue := [.command c.ports] } : State).present c.ports []) :=
    step_command rfl (decode_callPorts c)
  rw [h, exec_eq_latch]
  rfl

/-- A byte behind the first part of a concatenation. -/
theorem byteAt_append_of_le {a b : Bytes} {i : Nat} (h : a.length ≤ i) : byteAt (a ++ b) i = byteAt b (i - a.length) := by
  simp [byteAt, List.getElem?_append_right h]

end Sys2Proof.Machine
end

