-- ==== Sys2Proof/Laws/PerInstr.lean ====
section
/-! SUPPORT. Statements about every instruction as syntax, one lemma per constructor. -/

/-- The encoder leaves the reserved bits 7 and 6 of the descriptor clear (30_encoding.md R73). -/
def Sys2Proof.Laws.ReservedBitsClear.Statement (i : Sys2Proof.Instr) : Prop :=
  (Sys2Proof.descriptorOf (Sys2Proof.encode i)).high = 0#2

theorem Sys2Proof.Laws.ReservedBitsClear.lenEnc :
    Sys2Proof.Laws.ReservedBitsClear.Statement Sys2Proof.Instr.lenEnc := rfl

theorem Sys2Proof.Laws.ReservedBitsClear.dmpEnc :
    Sys2Proof.Laws.ReservedBitsClear.Statement Sys2Proof.Instr.dmpEnc := rfl

theorem Sys2Proof.Laws.ReservedBitsClear.frmEnc :
    Sys2Proof.Laws.ReservedBitsClear.Statement Sys2Proof.Instr.frmEnc := rfl

theorem Sys2Proof.Laws.ReservedBitsClear.synEnc :
    Sys2Proof.Laws.ReservedBitsClear.Statement Sys2Proof.Instr.synEnc := rfl

theorem Sys2Proof.Laws.ReservedBitsClear.rootEnc :
    Sys2Proof.Laws.ReservedBitsClear.Statement Sys2Proof.Instr.rootEnc := rfl

theorem Sys2Proof.Laws.ReservedBitsClear.buildData (c n sy : Bool) :
    Sys2Proof.Laws.ReservedBitsClear.Statement (Sys2Proof.Instr.buildData c n sy) := by
  cases c <;> cases n <;> cases sy <;> rfl

theorem Sys2Proof.Laws.ReservedBitsClear.buildSync (c : Bool) :
    Sys2Proof.Laws.ReservedBitsClear.Statement (Sys2Proof.Instr.buildSync c) := by
  cases c <;> rfl
end

