-- ==== Sys2Proof/Tests/Slice0.lean ====
section
/-! SUPPORT. The model's own tests. Expected values are the spec's: the vectors of 95_test_vectors.md (V<n>), computed there by hand
from the rules, under the vector configuration of that file. After them, a witness for the hypotheses of every obligation. -/

namespace Sys2Proof.Tests
open Sys2Proof.Machine

/-- The vector configuration of 95_test_vectors.md. -/
def vectorCfg : Config where
  lenFlags := 0x7#4
  forceSyncBit := 5
  otherOptions := 0x00#8
  synReserved := #v[0x00#8, 0x00#8, 0x00#8, 0x00#8]
  defaultCid :=
    #v[0x00#8, 0x01#8, 0x02#8, 0x03#8, 0x04#8, 0x05#8, 0x06#8, 0x07#8, 0x08#8, 0x09#8, 0x0A#8, 0x0B#8, 0x0C#8, 0x0D#8,
      0x0E#8, 0x0F#8]
  defaultName := [0x6C#8, 0x75#8, 0x6D#8, 0x6F#8, 0x73#8]

/-- A block with the vector configuration and operands on its ports. -/
def block (p : Ports) : State where
  ports := p
  status := .eCid
  outN := 0
  out := []
  cfg := vectorCfg
  issue := []

/-- `CID0`. -/
def cid0 : Bytes := vectorCfg.defaultCid.toList

/-- What a command leaves in the latch. -/
def latchOf : Host.Outcome State Fault Refusal → Option (BitVec 2 × Nat × Bytes)
  | .next s => some (s.status.code, s.outN, s.out)
  | .fault _ => none
  | .refused _ => none

/-- Some bytes of `OUT` after a command. -/
def outSlice (i j : Nat) (o : Host.Outcome State Fault Refusal) : Bytes :=
  match o with
  | .next s => slice s.out i j
  | .fault _ => []
  | .refused _ => []

/-- The refusal of a step, if it refused. -/
def refusalOf : Host.Outcome State Fault Refusal → Option Refusal
  | .refused r => some r
  | .next _ => none
  | .fault _ => none

/-! WellFormed: an ill-formed descriptor for each check, and the decoder's answer to each (R76, V43 to V46). -/

theorem test_wellFormed_refuses_high_bits : (descriptorOf 0b01000110#8).highClear = false := by decide
theorem test_wellFormed_refuses_op_zero : (descriptorOf 0b00000000#8).opAssigned = false := by decide
theorem test_wellFormed_refuses_c_on_dmp : (descriptorOf 0b00001010#8).cAllowed = false := by decide
theorem test_wellFormed_refuses_n_on_dmp : (descriptorOf 0b00010010#8).nAllowed = false := by decide
theorem test_wellFormed_refuses_s_on_sync : (descriptorOf 0b00100111#8).sAllowed = false := by decide
theorem test_wellFormed_accepts_build_data : (descriptorOf 0b00111110#8).wellFormed = true := by decide

theorem test_decode_V43 : decode 0b00000000#8 = .reserved .operation := by decide
theorem test_decode_V44 : decode 0b00010010#8 = .reserved .flag := by decide
theorem test_decode_V45 : decode 0b01000110#8 = .reserved .highBits := by decide
theorem test_decode_V46 : decode 0b00010111#8 = .reserved .flag := by decide

/-! Decode: words written out from R74's patterns and the `CMD` bytes of P1 to P4. -/

theorem test_decode_len : decode 0b00000001#8 = .ok .lenEnc := by decide
theorem test_decode_dmp : decode 0b00000010#8 = .ok .dmpEnc := by decide
theorem test_decode_frm : decode 0b00000011#8 = .ok .frmEnc := by decide
theorem test_decode_syn : decode 0b00000100#8 = .ok .synEnc := by decide
theorem test_decode_root : decode 0b00000101#8 = .ok .rootEnc := by decide
theorem test_decode_data_no_flags : decode 0b00000110#8 = .ok (.buildData false false false) := by decide
theorem test_decode_data_c : decode 0b00001110#8 = .ok (.buildData true false false) := by decide
theorem test_decode_data_n : decode 0b00010110#8 = .ok (.buildData false true false) := by decide
theorem test_decode_data_s : decode 0b00100110#8 = .ok (.buildData false false true) := by decide
theorem test_decode_sync_c : decode 0b00001111#8 = .ok (.buildSync true) := by decide
theorem test_decode_sync : decode 0b00000111#8 = .ok (.buildSync false) := by decide
theorem test_decodeTableWord : decodeTableWord 8 0x3E = some (.buildData true true true) := by decide

/-! Step: the fetched word runs as the first command after reset, and a reserved one is refused. -/

theorem test_first_command_after_reset : (latchOf (step (State.reset.withFetchWord 8 0x06))).map (·.2.1) = some 128 := by
  decide
/-- R152: with no sync universe supplied, bytes 111 and 112 are those of universe 0, in the configuration of the reset state. -/
theorem test_default_sync_universe_is_zero :
    outSlice 111 113 (step ({ State.reset with ports := { Ports.atReset with syncUniverse := 5#16 } }.withFetchWord 8 0x06)) =
      [0x00#8, 0x00#8] := by decide
theorem test_step_refuses_reserved :
    refusalOf (step (State.reset.withFetchWord 8 0x12)) = some (.reserved .flag) := by decide

/-! LEN.ENC: V16 and V18. -/

theorem test_len_V16 :
    latchOf (exec .lenEnc (block { Ports.atReset with lenIn := 2748 })) = some (0#2, 2, [0x7A#8, 0xBC#8]) := by decide
theorem test_len_V18 : latchOf (exec .lenEnc (block { Ports.atReset with lenIn := 4096 })) = some (3#2, 0, []) := by decide

/-! DMP.ENC: V21 and V23. -/

theorem test_dmp_V21 :
    latchOf (exec .dmpEnc (block { Ports.atReset with levels := [0xFF#8, 0xFF#8, 0xFF#8] })) =
      some (0#2, 14,
        [0x70#8, 0x0E#8, 0x02#8, 0xA1#8, 0x00#8, 0x00#8, 0x00#8, 0x01#8, 0x00#8, 0x04#8, 0x00#8, 0xFF#8, 0xFF#8, 0xFF#8]) := by
  decide
theorem test_dmp_V23 :
    latchOf (exec .dmpEnc (block { Ports.atReset with levels := List.replicate 513 0x00#8 })) = some (1#2, 0, []) := by
  have h : (List.replicate 513 0x00#8).length = 513 := List.length_replicate
  rw [exec_eq_latch, commandResult, dmpEncResult, Ports.readLevels_eq, dmpPdu_of_gt _ (by rw [block, h]; decide)]
  rfl

/-! FRM.ENC: V26 (a name of 64 bytes, sequence 255, one nested byte) and V27 (a priority above 200). -/

/-- The operands of V26. -/
def portsV26 : Ports :=
  { Ports.atReset with name := List.replicate 64 0x4E#8, sequence := 0xFF#8, nested := [0xAA#8] }

theorem test_frm_V26 :
    outSlice 69 80 (exec .frmEnc (block portsV26)) =
      [0x4E#8, 0x00#8, 0x00#8, 0x00#8, 0x00#8, 0x00#8, 0xFF#8, 0x20#8, 0x00#8, 0x00#8, 0xAA#8] := by decide
theorem test_frm_V27 :
    outSlice 0 6 (exec .frmEnc (block portsV26)) ++
      outSlice 70 71 (exec .frmEnc (block { portsV26 with priority := 255#8 })) =
      [0x70#8, 0x4E#8, 0x00#8, 0x00#8, 0x00#8, 0x02#8, 0xFF#8] := by decide

/-! SYN.ENC: V35. -/

theorem test_syn_V35 :
    latchOf (exec .synEnc (block { Ports.atReset with sequence := 9#8, syncUniverse := 5#16 })) =
      some (0#2, 13,
        [0x70#8, 0x0B#8, 0x00#8, 0x00#8, 0x00#8, 0x01#8, 0x09#8, 0x00#8, 0x05#8, 0x00#8, 0x00#8, 0x00#8, 0x00#8]) := by
  decide

/-! ROOT.ENC: V37 and V39. -/

theorem test_root_V37 :
    latchOf (exec .rootEnc (block { Ports.atReset with cid := cid0 })) =
      some (0#2, 38,
        [0x00#8, 0x10#8, 0x00#8, 0x00#8, 0x41#8, 0x53#8, 0x43#8, 0x2D#8, 0x45#8, 0x31#8, 0x2E#8, 0x31#8, 0x37#8, 0x00#8,
          0x00#8, 0x00#8, 0x70#8, 0x16#8, 0x00#8, 0x00#8, 0x00#8, 0x04#8, 0x00#8, 0x01#8, 0x02#8, 0x03#8, 0x04#8, 0x05#8,
          0x06#8, 0x07#8, 0x08#8, 0x09#8, 0x0A#8, 0x0B#8, 0x0C#8, 0x0D#8, 0x0E#8, 0x0F#8]) := by decide
theorem test_root_V39 :
    latchOf (exec .rootEnc (block { Ports.atReset with cid := List.replicate 15 0x00#8 })) = some (2#2, 0, []) := by decide

/-! BUILD.DATA: V30 without optional operands (V3) and V32's bytes 108 to 116. -/

/-- The operands of V32. -/
def portsV32 : Ports :=
  { Ports.atReset with
    cid := cid0, name := vectorCfg.defaultName, univ := 1#16, levels := [0xFF#8, 0xFF#8, 0xFF#8], sequence := 7#8,
    syncUniverse := 5#16 }

theorem test_data_V30 :
    outSlice 16 22 (exec (.buildData false false false) (block portsV32)) ++
      outSlice 36 50 (exec (.buildData false false false) (block portsV32)) ++
      outSlice 107 131 (exec (.buildData false false false) (block portsV32)) =
      [0x70#8, 0x73#8, 0x00#8, 0x00#8, 0x00#8, 0x04#8] ++
      [0x0E#8, 0x0F#8, 0x70#8, 0x5B#8, 0x00#8, 0x00#8, 0x00#8, 0x02#8, 0x6C#8, 0x75#8, 0x6D#8, 0x6F#8, 0x73#8, 0x00#8] ++
      [0x00#8, 0x64#8, 0x00#8, 0x00#8, 0x00#8, 0x00#8, 0x07#8, 0x20#8, 0x00#8, 0x01#8, 0x70#8, 0x0E#8, 0x02#8, 0xA1#8,
        0x00#8, 0x00#8, 0x00#8, 0x01#8, 0x00#8, 0x04#8, 0x00#8, 0xFF#8, 0xFF#8, 0xFF#8] := by decide
theorem test_data_V32 :
    outSlice 108 117 (exec (.buildData true true true) (block portsV32)) =
      [0x64#8, 0x00#8, 0x00#8, 0x00#8, 0x05#8, 0x07#8, 0x20#8, 0x00#8, 0x01#8] := by decide

/-! BUILD.SYNC: V40 and V42. -/

theorem test_sync_V40 :
    outSlice 16 22 (exec (.buildSync true) (block { Ports.atReset with cid := cid0, sequence := 9#8, syncUniverse := 5#16 })) ++
      outSlice 37 51 (exec (.buildSync true) (block { Ports.atReset with cid := cid0, sequence := 9#8, syncUniverse := 5#16 })) =
      [0x70#8, 0x23#8, 0x00#8, 0x00#8, 0x00#8, 0x04#8] ++
      [0x0F#8, 0x70#8, 0x0B#8, 0x00#8, 0x00#8, 0x00#8, 0x01#8, 0x09#8, 0x00#8, 0x05#8, 0x00#8, 0x00#8, 0x00#8, 0x00#8] := by
  decide
theorem test_sync_V42 :
    latchOf (exec (.buildSync true) (block { Ports.atReset with cid := List.replicate 17 0x00#8, syncUniverse := 1#16 })) =
      some (2#2, 0, []) := by decide

/-! The Transmitter: V6 and V48. -/

theorem test_multicast_V6 :
    (multicastAddress 1#16).dotted = "239.255.0.1" ∧ (multicastAddress 300#16).dotted = "239.255.1.44" := by decide
theorem test_counter_V48 :
    nextSeq 255#8 = 0#8 ∧ nextSeq 0#8 = 1#8 ∧ nextSeq 127#8 = 128#8 ∧ nextSeq 254#8 = 255#8 := by decide

/-! Witnesses: for every obligation with hypotheses, concrete operands that meet them, at the boundary of each clause. -/

/-- `k` zero bytes. -/
def nb (k : Nat) : Bytes := List.replicate k 0x00#8

@[simp] theorem nb_length (k : Nat) : (nb k).length = k := List.length_replicate

/-- A block with a CID, levels and a nested buffer of given sizes. -/
def sized (cid levels nested : Nat) : State :=
  block { Ports.atReset with cid := nb cid, levels := nb levels, nested := nb nested }

@[simp] theorem sized_cid (c l n : Nat) : (sized c l n).ports.cid.length = c := nb_length c
@[simp] theorem sized_levels (c l n : Nat) : (sized c l n).ports.levels.length = l := nb_length l
@[simp] theorem sized_nested (c l n : Nat) : (sized c l n).ports.nested.length = n := nb_length n

/-- A block to which the host does one thing. -/
def facing (m : HostMove) : State := { block Ports.atReset with issue := [m] }

/-- The ports with a descriptor byte. -/
def withCmd (b : Byte) : Ports := { Ports.atReset with cmd := b }

theorem witness_ReservedDescriptorsAreRefused :
    (facing (.command (withCmd 0x12#8))).issue = .command (withCmd 0x12#8) :: [] ∧
      (withCmd 0x12#8).cmd.getLsbD 4 = true ∧ (withCmd 0x12#8).cmd.extractLsb' 0 3 ≠ 0b110#3 := by decide

theorem witness_DecodeAndEncodeAgree :
    (Instr.buildData true false true).wellFormed = true ∧ decode 0x2E#8 = .ok (.buildData true false true) := by decide

theorem witness_StepRunsTheDecodedCommand :
    (facing (.command (withCmd 0x3E#8))).issue = .command (withCmd 0x3E#8) :: [] ∧
      decode (withCmd 0x3E#8).cmd = .ok (.buildData true true true) := by decide

theorem witness_IdleBlockKeepsItsState : (block Ports.atReset).issue = [] := rfl

theorem witness_ResetClearsOnlyTheLatch :
    (facing .reset).issue = .reset :: [] ∧ (facing (.resetDuring (withCmd 1#8))).issue = .resetDuring (withCmd 1#8) :: [] :=
  ⟨rfl, rfl⟩

theorem witness_LenEncPacksOrRejects :
    (block { Ports.atReset with lenIn := 4095 }).ports.lenIn ≤ 4095 ∧
      4095 < (block { Ports.atReset with lenIn := 4096 }).ports.lenIn := by decide

theorem witness_LenIsTotalAndInjective : 4095 ≤ 4095 ∧ lenField vectorCfg 4095 = lenField vectorCfg 4095 := by decide

theorem witness_LenFieldRoundTrip :
    lenField vectorCfg 4095 = .ok [0x7F#8, 0xFF#8] ∧ lenFlagsOf 0x7F#8 = vectorCfg.lenFlags := by decide

theorem witness_DmpEncEmitsThePdu :
    (sized 0 512 0).ports.levels.length ≤ 512 ∧ 512 < (sized 0 513 0).ports.levels.length := by simp

theorem witness_DmpLevelsComeBack : (sized 0 512 0).ports.levels.length ≤ 512 := by simp

theorem witness_FrmEncEmitsThePdu :
    77 + (sized 0 0 4018).ports.nested.length ≤ 4095 ∧ 4095 < 77 + (sized 0 0 4019).ports.nested.length := by simp

theorem witness_SourceNameIsPaddedOrCut :
    (77 + (block { Ports.atReset with name := nb 64 }).ports.nested.length ≤ 4095 ∧
      (block { Ports.atReset with name := nb 64 }).ports.name.length ≤ 64) ∧
    (77 + (block { Ports.atReset with name := nb 65 }).ports.nested.length ≤ 4095 ∧
      64 < (block { Ports.atReset with name := nb 65 }).ports.name.length) := by
  simp [block, Ports.atReset]

theorem witness_PriorityIsNotChecked :
    77 + (sized 16 512 4018).ports.nested.length ≤ 4095 ∧ (sized 16 512 4018).ports.levels.length ≤ 512 ∧
      (true = true → (sized 16 512 4018).ports.cid.length = 16) := by simp

theorem witness_FramingScalarsAreEmittedAsGiven : 77 + (sized 0 0 4018).ports.nested.length ≤ 4095 := by simp

theorem witness_RootEncEmitsThePdu :
    ((sized 16 0 4073).ports.cid.length = 16 ∧ 22 + (sized 16 0 4073).ports.nested.length ≤ 4095) ∧
      (sized 17 0 0).ports.cid.length ≠ 16 ∧
      ((sized 16 0 4074).ports.cid.length = 16 ∧ 4095 < 22 + (sized 16 0 4074).ports.nested.length) := by simp

theorem witness_EveryPacketHasThePrefixAndTheCid :
    ((sized 16 512 4073).ports.cid.length = 16 ∧ 22 + (sized 16 512 4073).ports.nested.length ≤ 4095) ∧
      ((sized 16 512 4073).ports.levels.length ≤ 512 ∧ (true = true → (sized 16 512 4073).ports.cid.length = 16)) ∧
      (false = true → (sized 15 512 4073).ports.cid.length = 16) := by simp

theorem witness_DeclaredLengthAgainstSize :
    (sized 16 512 4018).ports.levels.length ≤ 512 ∧ 77 + (sized 16 512 4018).ports.nested.length ≤ 4095 ∧
      (sized 16 512 4073).ports.cid.length = 16 ∧ 22 + (sized 16 512 4073).ports.nested.length ≤ 4095 := by simp

theorem witness_BuildDataEmitsThePacket :
    ((sized 16 512 0).ports.levels.length ≤ 512 ∧ (true = true → (sized 16 512 0).ports.cid.length = 16)) ∧
      512 < (sized 16 513 0).ports.levels.length ∧
      ((sized 17 512 0).ports.levels.length ≤ 512 ∧ (sized 17 512 0).ports.cid.length ≠ 16) ∧
      (sized 16 512 0).ports.syncUniverse = 0#16 := by
  simp [sized, block, Ports.atReset]

theorem witness_DataPacketDeclaredLengths :
    (sized 16 512 0).ports.levels.length ≤ 512 ∧ (true = true → (sized 16 512 0).ports.cid.length = 16) := by simp

/-- Clause 1 at 512 levels; clause 2 on V32's operands, with and without the supplied CID, which give one packet. -/
theorem witness_DataPacketIsRecoverable :
    ((sized 16 512 0).ports.levels.length ≤ 512 ∧ (true = true → (sized 16 512 0).ports.cid.length = 16)) ∧
    (latchOf (exec (.buildData true false false) (block portsV32))).map (·.1) = some 0#2 ∧
    (latchOf (exec (.buildData false false false) (block portsV32))).map (·.1) = some 0#2 ∧
    outSlice 0 131 (exec (.buildData true false false) (block portsV32)) =
      outSlice 0 131 (exec (.buildData false false false) (block portsV32)) := by
  refine ⟨by simp, by decide, by decide, rfl⟩

/-- Another configuration, with another default CID. -/
def otherCfg : Config := { vectorCfg with defaultCid := Vector.replicate 16 0xEE#8 }

theorem witness_PacketsDependOnOperandsAndConfiguration :
    (block portsV32).ports = { block portsV32 with status := .ok }.ports ∧
      (block portsV32).cfg = { block portsV32 with status := .ok }.cfg ∧
      (block portsV32).ports.levels.length ≤ 512 ∧ (block portsV32).cfg.defaultCid ≠ otherCfg.defaultCid := by decide

theorem witness_BuildSyncEmitsThePacket :
    (true = true → (sized 16 0 0).ports.cid.length = 16) ∧ (sized 17 0 0).ports.cid.length ≠ 16 := by simp

theorem witness_SyncPacketHasFixedSize : true = true → (sized 16 0 0).ports.cid.length = 16 := by simp

theorem witness_ErrorPriority :
    (512 < (sized 17 513 0).ports.levels.length ∧ (sized 17 513 0).ports.cid.length ≠ 16) ∧
      ((sized 17 0 4074).ports.cid.length ≠ 16 ∧ 4074 ≤ (sized 17 0 4074).ports.nested.length) ∧
      (Instr.frmEnc ≠ .rootEnc ∧ (∀ n sy, Instr.frmEnc ≠ .buildData true n sy)) := by simp

theorem witness_ErrorsArePrecise :
    exec .lenEnc (block { Ports.atReset with lenIn := 4096 }) =
        .next ((block { Ports.atReset with lenIn := 4096 }).takeError .eLength) ∧
      ((block { Ports.atReset with lenIn := 4096 }).takeError .eLength).status ≠ .ok := ⟨rfl, by decide⟩

theorem witness_CommandsWriteOnlyTheLatch :
    ((block portsV32).latch (commandResult (.buildData true true true) vectorCfg portsV32)).status = .ok := by decide

/-- Clause by clause, ports that agree with V32's in exactly what the operation reads. -/
theorem witness_UnreadPortsAreIgnored :
    ((block portsV32).ports.lenIn = { Ports.atReset with lenIn := 0 }.lenIn ∧ (block portsV32).ports ≠ Ports.atReset) ∧
    (block portsV32).ports.levels = { Ports.atReset with levels := portsV32.levels, lenIn := 5 }.levels ∧
    (let q : Ports := { portsV32 with cid := [], levels := [], lenIn := 5 }
     (block portsV32).ports.name = q.name ∧ (block portsV32).ports.priority = q.priority ∧
      (block portsV32).ports.sequence = q.sequence ∧ (block portsV32).ports.syncUniverse = q.syncUniverse ∧
      (block portsV32).ports.univ = q.univ ∧ (block portsV32).ports.nested = q.nested) ∧
    (let q : Ports := { Ports.atReset with sequence := 7#8, syncUniverse := 5#16, cid := [1#8] }
     (block portsV32).ports.sequence = q.sequence ∧ (block portsV32).ports.syncUniverse = q.syncUniverse) ∧
    (let q : Ports := { Ports.atReset with cid := cid0, sequence := 9#8 }
     (block portsV32).ports.cid = q.cid ∧ (block portsV32).ports.nested = q.nested) ∧
    (let q : Ports := { portsV32 with cid := [], priority := 9#8, lenIn := 5, nested := [1#8] }
     (block portsV32).ports.levels = q.levels ∧ (block portsV32).ports.univ = q.univ ∧
      (block portsV32).ports.sequence = q.sequence ∧ (false = true → (block portsV32).ports.cid = q.cid) ∧
      (true = true → (block portsV32).ports.name = q.name) ∧
      (true = true → (block portsV32).ports.syncUniverse = q.syncUniverse)) ∧
    (let q : Ports := { portsV32 with name := [], levels := [], priority := 9#8 }
     (block portsV32).ports.sequence = q.sequence ∧ (block portsV32).ports.syncUniverse = q.syncUniverse ∧
      (true = true → (block portsV32).ports.cid = q.cid)) := by decide

/-- A host that issues a command, resets, and resets during a command. -/
def busy : State :=
  { block Ports.atReset with issue := [.command (withCmd 0x04#8), .reset, .resetDuring (withCmd 0x07#8)] }

theorem busy_latched : ({ busy with status := .ok } : State).Latched := ⟨rfl, fun _ => rfl, by decide⟩

theorem witness_EveryStepKeepsTheLatchConsistent :
    ({ busy with status := .ok } : State).Latched ∧
      (latchOf (step { busy with status := .ok })).map (·.2.1) = some 13 := ⟨busy_latched, by decide⟩

theorem witness_AcceptedRunsComplete : busy.Accepted := by
  simp [State.Accepted, busy]
  decide

theorem witness_RunsForgetTheLatch :
    busy.cfg = { busy with status := .eLength }.cfg ∧ busy.issue = { busy with status := .eLength }.issue ∧
      busy.issue ≠ [] ∧ busy.Accepted := ⟨rfl, rfl, by simp [busy], witness_AcceptedRunsComplete⟩

theorem witness_MulticastAddressOfAUniverse :
    Transmitter.construct 1#16 (some ⟨10#8, 0#8, 0#8, 1#8⟩) none none none none =
      .ok ⟨1#16, ⟨10#8, 0#8, 0#8, 1#8⟩, 5568#16, none, none, 255#8⟩ := rfl

theorem witness_SequenceNumbersCountTheSends : ∀ l ∈ [nb 512, nb 0], l.length ≤ 512 := by simp

theorem witness_FailedSendKeepsTheCounter : 512 < (nb 513).length ∧ (nb 512).length ≤ 512 := by simp

end Sys2Proof.Tests
end

namespace Sys2Proof

/-- Settles O42: the table of 00_scope.md R6, row by row from the law of each parameter, which holds in every configuration because
its record carries `Config.fixed_is`. -/
theorem fixedParametersHoldTheDocumentsValues : Obligations.FixedParametersHoldTheDocumentsValues := fun cfg =>
  ⟨cfg.fixed_lenMax, cfg.fixed_lenValueBits, cfg.fixed_lenFieldBytes, cfg.fixed_maxLevels, cfg.fixed_cidBytes, cfg.fixed_nameBytes,
    cfg.fixed_dmpLenConst, cfg.fixed_dmpStartcodeBytes, cfg.fixed_frmLenConst, cfg.fixed_synLenValue, cfg.fixed_rootLenConst,
    cfg.fixed_preambleSize, cfg.fixed_postambleSize, cfg.fixed_acnPacketId, cfg.fixed_vectorRoot, cfg.fixed_vectorDataPacket,
    cfg.fixed_vectorSyncPacket, cfg.fixed_vectorDmpSetProperty, cfg.fixed_dmpAddrDataType, cfg.fixed_dmpFirstAddr,
    cfg.fixed_dmpAddrInc, cfg.fixed_dmxStartcode, cfg.fixed_frmReserved, cfg.fixed_defaultPriority, cfg.fixed_priorityValidMax⟩

end Sys2Proof

namespace Sys2Proof

/-- Settles O31 (10_state.md R28): both executions latch one result, since `commandResult` takes only the configuration and the
ports, on which the two states agree. -/
theorem resultsIgnoreHistory : Obligations.ResultsIgnoreHistory := by
  intro i s status outN out issue
  exact ⟨_, _, Machine.exec_eq_latch i s, Machine.exec_eq_latch i { s with status, outN, out, issue },
    Machine.State.latch_sameLatch _ _ (Machine.commandResult i s.cfg s.ports)⟩

end Sys2Proof

namespace Sys2Proof.Machine

/-- A command whose result is `b`, of size `k`, leaves the success latch of 10_state.md R26. -/
theorem exec_of_result_ok {i : Instr} {s : State} {b : Bytes} {k : Nat} (h : commandResult i s.cfg s.ports = .ok b)
    (hk : b.length = k) : exec i s = .next { s with status := .ok, outN := k, out := b } := by
  subst hk
  rw [exec_eq_latch, h]
  rfl

/-- A command whose result is an error leaves the error's code and nothing else (60_exceptions.md R176). -/
theorem exec_of_result_err {i : Instr} {s : State} {c : ErrCode} (h : commandResult i s.cfg s.ports = .err c) :
    exec i s = .next (s.failed c.status) := by
  rw [exec_eq_latch, h]
  rfl

/-- The `00snc110` row of the opcode map (30_encoding.md R74). -/
theorem decode_buildData (sy n c : Bool) :
    decode (BitVec.ofNat 8 (32 * sy.toNat + 16 * n.toNat + 8 * c.toNat + 6)) = .ok (.buildData c n sy) := by
  decide +revert

/-- The `0000c111` row of the opcode map (30_encoding.md R74). -/
theorem decode_buildSync (c : Bool) : decode (BitVec.ofNat 8 (8 * c.toNat + 7)) = .ok (.buildSync c) := by
  decide +revert

/-- The data packet's size, from the layers it nests: `38 + (79 + (11 + n))` (20_memory.md R44). -/
theorem Spec.dataPacket_length (cfg : Config) {cid : Bytes} (name : Bytes) (u : Half) (l : Bytes) (q : Byte) (y : Half)
    (h : cid.length = 16) : (Spec.dataPacket cfg cid name u l q y).length = 128 + l.length := by
  rw [← rootBytes_frmBytes_dmpBytes, Spec.rootBytes_length _ _ h, Spec.frmBytes_length, Spec.dmpBytes_length]
  omega

/-- The sync packet's size, from the layers it nests: `38 + 13` (20_memory.md R45). -/
theorem Spec.syncPacket_length (cfg : Config) {cid : Bytes} (q : Byte) (y : Half) (h : cid.length = 16) :
    (Spec.syncPacket cfg cid q y).length = 51 := by
  rw [← rootBytes_synBytes, Spec.rootBytes_length _ _ h, Spec.synBytes_length]

/-- An absent sync universe is the operand 0 supplied (45_packet_builder.md R152, R154). -/
theorem Ports.syncOr_absent_eq_supplied {p : Ports} (cfg : Config) (h : p.syncUniverse = 0#16) :
    p.syncOr cfg false = p.syncOr cfg true := by
  simp [Ports.syncOr, h]

/-- So BUILD.DATA has one result with `S = 0` and with `S = 1` on operand 0: it reads the sync universe through `syncOr` only. -/
theorem buildDataResult_sync_absent {p : Ports} (cfg : Config) (c n : Bool) (h : p.syncUniverse = 0#16) :
    buildDataResult cfg c n false p = buildDataResult cfg c n true p := by
  rw [buildDataResult, buildDataResult, Ports.syncOr_absent_eq_supplied cfg h]

end Sys2Proof.Machine

namespace Sys2Proof

open Machine

/-- Settles O21 (20_memory.md R44, 45_packet_builder.md R152): each clause is one of the three results BUILD.DATA can have, latched;
the last compares two results on the same ports. -/
theorem buildDataEmitsThePacket : Obligations.BuildDataEmitsThePacket := by
  refine ⟨decode_buildData, fun s c n sy => ⟨fun hl hc => ?packet, fun hl => ?tooManyLevels, fun hl hc hcid => ?badCid,
    fun hy => ?noSyncUniverse⟩⟩
  case packet =>
    exact exec_of_result_ok (buildDataResult_of_le hl hc) (Spec.dataPacket_length _ _ _ _ _ _ (effectiveCid_length hc))
  case tooManyLevels =>
    exact exec_of_result_err (c := .eLevels) (buildDataResult_of_gt hl)
  case badCid =>
    subst hc
    exact exec_of_result_err (c := .eCid) (buildDataResult_of_cid hl hcid)
  case noSyncUniverse =>
    rw [exec_eq_latch, exec_eq_latch, commandResult, commandResult, buildDataResult_sync_absent _ _ _ hy]

/-- Settles O25 (20_memory.md R45, 45_packet_builder.md R155): BUILD.SYNC has two results, its packet and `E_CID`, and each clause
latches one. -/
theorem buildSyncEmitsThePacket : Obligations.BuildSyncEmitsThePacket := by
  refine ⟨decode_buildSync, fun s c => ⟨fun hc => ?packet, fun hc hcid => ?badCid⟩⟩
  case packet =>
    exact exec_of_result_ok (buildSyncResult_of_cid16 hc) (Spec.syncPacket_length _ _ _ (effectiveCid_length hc))
  case badCid =>
    subst hc
    exact exec_of_result_err (c := .eCid) (buildSyncResult_of_cid hcid)

end Sys2Proof

namespace Sys2Proof

theorem Descriptor.opAssigned_eq_false (d : Descriptor) : d.opAssigned = false ↔ d.op = 0b000#3 := by
  simp [Descriptor.opAssigned]

theorem Descriptor.cAllowed_eq_false (d : Descriptor) :
    d.cAllowed = false ↔ d.c = true ∧ d.op ≠ 0b110#3 ∧ d.op ≠ 0b111#3 := by
  simp [Descriptor.cAllowed, and_assoc]

theorem Descriptor.nAllowed_eq_false (d : Descriptor) : d.nAllowed = false ↔ d.n = true ∧ d.op ≠ 0b110#3 := by
  simp [Descriptor.nAllowed]

theorem Descriptor.sAllowed_eq_false (d : Descriptor) : d.sAllowed = false ↔ d.sy = true ∧ d.op ≠ 0b110#3 := by
  simp [Descriptor.sAllowed]

/-- A descriptor is reserved when one of the five checks of 30_encoding.md R76 fails. -/
theorem Descriptor.wellFormed_eq_false (d : Descriptor) :
    d.wellFormed = false ↔
      d.highClear = false ∨ d.op = 0b000#3 ∨ (d.c = true ∧ d.op ≠ 0b110#3 ∧ d.op ≠ 0b111#3) ∨
        (d.n = true ∧ d.op ≠ 0b110#3) ∨ (d.sy = true ∧ d.op ≠ 0b110#3) := by
  simp only [Descriptor.wellFormed, Bool.and_eq_false_iff, Descriptor.opAssigned_eq_false, Descriptor.cAllowed_eq_false,
    Descriptor.nAllowed_eq_false, Descriptor.sAllowed_eq_false, or_assoc]

end Sys2Proof

namespace Sys2Proof.Machine

/-- The decoder rejects exactly the descriptors that the well-formedness check rejects (30_encoding.md R76). -/
theorem decode_rejects_iff (cmd : Byte) : (∃ why, decode cmd = .reserved why) ↔ (descriptorOf cmd).wellFormed = false := by
  rw [← Bool.not_eq_true, ← decode_accepts_iff]
  cases decode cmd <;> simp

/-- The reserved field is set when one of its two bits is (30_encoding.md R73, R76). -/
theorem descriptorOf_highClear_eq_false (cmd : Byte) :
    (descriptorOf cmd).highClear = false ↔ cmd.getLsbD 7 = true ∨ cmd.getLsbD 6 = true := by
  decide +revert

/-- The rejected descriptors, by the list of 30_encoding.md R76: the failed checks of `wellFormed`, with those on `N` and `S` in one
disjunct. -/
theorem decode_reserved_iff (cmd : Byte) :
    (∃ why, decode cmd = .reserved why) ↔
      (cmd.extractLsb' 0 3 = 0b000#3 ∨ cmd.getLsbD 7 = true ∨ cmd.getLsbD 6 = true ∨
        ((cmd.getLsbD 4 = true ∨ cmd.getLsbD 5 = true) ∧ cmd.extractLsb' 0 3 ≠ 0b110#3) ∨
        (cmd.getLsbD 3 = true ∧ cmd.extractLsb' 0 3 ≠ 0b110#3 ∧ cmd.extractLsb' 0 3 ≠ 0b111#3)) := by
  rw [decode_rejects_iff, Descriptor.wellFormed_eq_false, descriptorOf_highClear_eq_false]
  simp only [descriptorOf]
  tauto

/-- A step on a presented command is refused as reserved exactly when the decoder rejects the descriptor: a command that decodes is
run, and answers a next state (10_state.md R26). -/
theorem step_command_refused_iff {s : State} {p : Ports} {rest : List HostMove} (hi : s.issue = .command p :: rest) :
    (∃ why, step s = .refused (.reserved why)) ↔ ∃ why, decode p.cmd = .reserved why := by
  cases hd : decode p.cmd with
  | ok i => simp [step_command hi hd, exec_eq_latch]
  | reserved why => simp [step, hi, hd]

/-- DMP.ENC on up to 512 levels (41_dmp_layer.md R100). -/
theorem dmpEncResult_of_le (cfg : Config) {p : Ports} (h : p.levels.length ≤ 512) :
    dmpEncResult cfg p = .ok (Spec.dmpBytes cfg p.levels) := by
  rw [dmpEncResult, Ports.readLevels_eq, dmpPdu_of_le _ h]

/-- FRM.ENC on a nested buffer of up to 4018 bytes (42_framing_layer.md R110). -/
theorem frmEncResult_of_le (cfg : Config) {p : Ports} (h : 77 + p.nested.length ≤ 4095) :
    frmEncResult cfg p =
      .ok (Spec.frmBytes cfg p.name p.priority p.sequence p.syncUniverse p.univ p.nested) := by
  rw [frmEncResult, Ports.readName_eq, Ports.readNested_eq, frmPdu_of_le _ _ _ _ _ _ h]

/-- ROOT.ENC on a CID of 16 bytes and a nested buffer of up to 4073 (R135). -/
theorem rootEncResult_of_le (cfg : Config) {p : Ports} (hc : p.cid.length = 16) (h : 22 + p.nested.length ≤ 4095) :
    rootEncResult cfg p = .ok (Spec.rootBytes cfg p.cid p.nested) := by
  rw [rootEncResult, Ports.readCid_eq, Ports.readNested_eq, rootPdu_of_le _ hc h]

/-- A length field behind `a` declares its value at the offset `|a|` (40_length_codec.md R92, R93). -/
theorem declaredAt_lenBytes (cfg : Config) (a b : Bytes) {v : Nat} (h : v ≤ 4095) :
    declaredAt (a ++ (Spec.lenBytes cfg v ++ b)) a.length = v := by
  rw [declaredAt, byteAt_append_of_le le_rfl, byteAt_append_of_le (Nat.le_add_right _ 1), Nat.sub_self, Nat.add_sub_cancel_left]
  exact lenDecode_lenBytes cfg h

/-- The declared length of a DMP PDU (30_encoding.md R68, R71). -/
theorem declaredAt_dmpBytes (cfg : Config) {l : Bytes} (h : l.length ≤ 512) :
    declaredAt (Spec.dmpBytes cfg l) 0 = 10 + 1 + l.length := by
  simp only [Spec.dmpBytes, List.append_assoc]
  exact declaredAt_lenBytes cfg [] _ (by omega)

/-- The declared length of a data-framing PDU (30_encoding.md R65, R71). -/
theorem declaredAt_frmBytes (cfg : Config) (name : Bytes) (p q : Byte) (y u : Half) {d : Bytes} (h : 77 + d.length ≤ 4095) :
    declaredAt (Spec.frmBytes cfg name p q y u d) 0 = 77 + d.length := by
  simp only [Spec.frmBytes, List.append_assoc]
  exact declaredAt_lenBytes cfg [] _ h

/-- The declared length of a sync-framing PDU (30_encoding.md R67, R71). -/
theorem declaredAt_synBytes (cfg : Config) (q : Byte) (y : Half) : declaredAt (Spec.synBytes cfg q y) 0 = 11 := by
  simp only [Spec.synBytes, List.append_assoc]
  exact declaredAt_lenBytes cfg [] _ (by decide)

/-- The declared length of a root PDU, behind its 16 fixed bytes (30_encoding.md R64, R71). -/
theorem declaredAt_rootBytes (cfg : Config) (cid : Bytes) {n : Bytes} (h : 22 + n.length ≤ 4095) :
    declaredAt (Spec.rootBytes cfg cid n) 16 = 22 + n.length := by
  simp only [Spec.rootBytes, List.append_assoc]
  exact declaredAt_lenBytes cfg Spec.rootPrefix _ h

/-- A command whose result declares `v` at offset `k` and is `e` bytes longer leaves that in `OUT` (10_state.md R26). -/
theorem exec_declares {i : Instr} {s : State} {b : Bytes} {k v e : Nat} (hr : commandResult i s.cfg s.ports = .ok b)
    (hv : declaredAt b k = v) (hb : b.length = v + e) :
    ∃ t, exec i s = .next t ∧ declaredAt t.out k = v ∧ t.out.length = declaredAt t.out k + e :=
  ⟨_, exec_of_result_ok hr rfl, hv, by rw [hv]; exact hb⟩

end Sys2Proof.Machine

namespace Sys2Proof

open Machine

/-- Settles O2 (30_encoding.md R76): a step is refused as reserved exactly when the decoder rejects, and the decoder rejects exactly
the listed descriptors. -/
theorem reservedDescriptorsAreRefused : Obligations.ReservedDescriptorsAreRefused := fun _ p _ hi =>
  (step_command_refused_iff hi).trans (decode_reserved_iff p.cmd)

/-- Settles O20 (30_encoding.md R71): each layer's output is its wire format, whose size and declared length are both a constant
plus the size of the nested buffer. -/
theorem declaredLengthAgainstSize : Obligations.DeclaredLengthAgainstSize := by
  intro s
  refine ⟨fun hl => ?dmp, fun hn => ?frm, ?syn, fun hc hn => ?root⟩
  case dmp =>
    have hsize : (Spec.dmpBytes s.cfg s.ports.levels).length = 10 + 1 + s.ports.levels.length + 0 := Spec.dmpBytes_length _ _
    exact exec_declares (e := 0) (dmpEncResult_of_le _ hl) (declaredAt_dmpBytes _ hl) hsize
  case frm =>
    refine exec_declares (frmEncResult_of_le _ hn) (declaredAt_frmBytes _ _ _ _ _ _ hn) ?_
    rw [Spec.frmBytes_length]
    omega
  case syn =>
    exact exec_declares (synPdu_eq _ _ _) (declaredAt_synBytes _ _ _) (Spec.synBytes_length _ _ _)
  case root =>
    refine exec_declares (rootEncResult_of_le _ hc hn) (declaredAt_rootBytes _ _ hn) ?_
    rw [Spec.rootBytes_length _ _ hc]
    omega

/-- Settles O1 (30_encoding.md R74): the five rows without flags are bytes; the two builders' rows are theirs for all flags; and
every byte with `OP = 000` is on the list of reserved descriptors. -/
theorem decoderReadsTheOpcodeMap : Obligations.DecoderReadsTheOpcodeMap := by
  refine ⟨rfl, rfl, rfl, rfl, rfl, decode_buildData, decode_buildSync, fun high => ?_⟩
  have hop : (high ++ 0b000#3).extractLsb' 0 3 = 0b000#3 := BitVec.extractLsb'_append_eq_right
  exact (decode_reserved_iff _).mpr (.inl hop)

end Sys2Proof

namespace Sys2Proof.Machine

/-- The flags of the arithmetic form of a length field (40_length_codec.md R93). -/
theorem lenFlagsOf_lenBytes (cfg : Config) {v : Nat} (h : v ≤ 4095) :
    lenFlagsOf (BitVec.ofNat 8 (cfg.lenFlags.toNat * 16 + v / 256)) = cfg.lenFlags := by
  have hf := cfg.lenFlags.isLt
  apply BitVec.eq_of_toNat_eq
  rw [lenFlagsOf_toNat, BitVec.toNat_ofNat]
  omega

/-- `len_decode` reads 12 bits (40_length_codec.md R92). -/
theorem lenDecode_le (b0 b1 : Byte) : lenDecode b0 b1 ≤ 4095 := by
  have h1 := b1.isLt
  rw [lenDecode_eq]
  omega

/-- Two bytes under the configured flags are the length field of the value that `len_decode` reads from them. -/
theorem lenBytes_lenDecode (cfg : Config) {b0 b1 : Byte} (hf : lenFlagsOf b0 = cfg.lenFlags) :
    Spec.lenBytes cfg (lenDecode b0 b1) = [b0, b1] := by
  have h1 := b1.isLt
  have hquot : cfg.lenFlags.toNat * 16 + lenDecode b0 b1 / 256 = b0.toNat := by
    rw [← hf, lenFlagsOf_toNat, lenDecode_eq]
    omega
  have hrem : lenDecode b0 b1 % 256 = b1.toNat := by
    rw [lenDecode_eq]
    omega
  rw [Spec.lenBytes, hquot, hrem, BitVec.ofNat_toNat, BitVec.ofNat_toNat, BitVec.setWidth_eq, BitVec.setWidth_eq]

/-- The codec accepts only values up to 4095 (40_length_codec.md R90). -/
theorem le_of_lenField_eq_ok {cfg : Config} {v : Nat} {b : Bytes} (h : lenField cfg v = .ok b) : v ≤ 4095 := by
  by_contra hgt
  rw [lenField_of_gt cfg (not_le.mp hgt)] at h
  cases h

/-- `LEN` and the pair of `len_flags` and `len_decode` are inverse to each other (40_length_codec.md R93): a value's field is `b0, b1`
exactly when these bytes read as the configured flags and the value. -/
theorem lenField_eq_ok_iff {cfg : Config} {v : Nat} {b0 b1 : Byte} :
    lenField cfg v = .ok [b0, b1] ↔ lenFlagsOf b0 = cfg.lenFlags ∧ lenDecode b0 b1 = v := by
  constructor
  · intro h
    have hv := le_of_lenField_eq_ok h
    rw [lenField_eq_lenBytes cfg hv] at h
    cases h
    exact ⟨lenFlagsOf_lenBytes cfg hv, lenDecode_lenBytes cfg hv⟩
  · rintro ⟨hf, rfl⟩
    rw [lenField_eq_lenBytes cfg (lenDecode_le b0 b1), lenBytes_lenDecode cfg hf]

end Sys2Proof.Machine

namespace Sys2Proof

open Machine

/-- Settles O8 (40_length_codec.md R90): the result of LEN.ENC is the length field of `LEN_IN`, two bytes up to 4095 and `E_LENGTH`
above, latched. -/
theorem lenEncPacksOrRejects : Obligations.LenEncPacksOrRejects := by
  refine ⟨rfl, fun s => ⟨fun hle => ?packed, fun hgt => ?rejected⟩⟩
  case packed => exact exec_of_result_ok (i := .lenEnc) (lenField_eq_lenBytes s.cfg hle) rfl
  case rejected => exact exec_of_result_err (i := .lenEnc) (c := .eLength) (lenField_of_gt s.cfg hgt)

/-- Settles O9 (40_length_codec.md R91): every natural is at most 4095 or above it; and one field decodes to one value. -/
theorem lenIsTotalAndInjective : Obligations.LenIsTotalAndInjective := by
  refine fun cfg => ⟨fun v => ?total, fun v w hv hw heq => ?injective⟩
  case total =>
    rcases le_or_gt v 4095 with hle | hgt
    · exact .inl ⟨_, _, lenField_eq_lenBytes cfg hle⟩
    · exact .inr (lenField_of_gt cfg hgt)
  case injective =>
    have hfield := lenField_eq_lenBytes cfg hw
    exact (lenField_eq_ok_iff.mp (heq.trans hfield)).2.symm.trans (lenField_eq_ok_iff.mp hfield).2

/-- Settles O10 (40_length_codec.md R93): both directions of `lenField_eq_ok_iff`. -/
theorem lenFieldRoundTrip : Obligations.LenFieldRoundTrip := fun _ =>
  ⟨fun _ _ _ _ h => (lenField_eq_ok_iff.mp h).symm,
    fun _ _ hf => ⟨lenField_eq_ok_iff.mpr ⟨hf, rfl⟩, fun _ h => (lenField_eq_ok_iff.mp h).2.symm⟩⟩

end Sys2Proof

namespace Sys2Proof.Machine

theorem byteAt_of_drop_eq {b c : Bytes} {k : Nat} {x : Byte} (h : b.drop k = x :: c) : byteAt b k = x := by
  have hget : (b.drop k)[0]? = some x := by rw [h, List.getElem?_cons_zero]
  rw [List.getElem?_drop, Nat.add_zero] at hget
  rw [byteAt, List.getD_eq_getElem?_getD, hget, Option.getD_some]

/-- A buffer that goes on with the two bytes of `v` at an offset reads as `v` there (20_memory.md R41). -/
theorem wordAt_of_drop_eq {b c : Bytes} {k v : Nat} (h : b.drop k = Spec.twoBytes v ++ c) (hv : v < 65536) : wordAt b k = v := by
  have hhigh : byteAt b k = BitVec.ofNat 8 (v / 256) := byteAt_of_drop_eq h
  have hlow : byteAt b (k + 1) = BitVec.ofNat 8 (v % 256) := byteAt_of_drop_eq (c := c) (by rw [← List.drop_drop, h]; rfl)
  rw [wordAt, hhigh, hlow, BitVec.toNat_ofNat, BitVec.toNat_ofNat]
  omega

/-- A slice up to the end keeps everything from its offset on (00_scope.md R9). -/
theorem slice_length_eq_drop (b : Bytes) (i : Nat) : slice b i b.length = b.drop i := by
  rw [slice, ← List.length_drop, List.take_length]

/-- The DMP PDU from its property value count on, behind eight bytes of length, vector, type, address and increment
(30_encoding.md R68). -/
theorem drop_dmpBytes_eight (cfg : Config) (l : Bytes) :
    (Spec.dmpBytes cfg l).drop 8 = Spec.twoBytes (1 + l.length) ++ 0x00#8 :: l := rfl

/-- What follows the property value count: the start code and the levels (41_dmp_layer.md R102). -/
theorem drop_dmpBytes_ten (cfg : Config) (l : Bytes) : (Spec.dmpBytes cfg l).drop 10 = 0x00#8 :: l := rfl

/-- The property value count of up to 512 levels (41_dmp_layer.md R102). -/
theorem wordAt_dmpBytes_eight (cfg : Config) {l : Bytes} (h : l.length ≤ 512) :
    wordAt (Spec.dmpBytes cfg l) 8 = 1 + l.length :=
  wordAt_of_drop_eq (drop_dmpBytes_eight cfg l) (by omega)

/-- The levels are the tail of the DMP PDU (41_dmp_layer.md R103). -/
theorem slice_dmpBytes_eleven (cfg : Config) (l : Bytes) :
    slice (Spec.dmpBytes cfg l) 11 (Spec.dmpBytes cfg l).length = l := by
  rw [slice_length_eq_drop, ← List.drop_drop (i := 1) (j := 10), drop_dmpBytes_ten, List.drop_one, List.tail_cons]

/-- DMP.ENC on more than 512 levels (41_dmp_layer.md R100). -/
theorem dmpEncResult_of_gt (cfg : Config) {p : Ports} (h : 512 < p.levels.length) : dmpEncResult cfg p = .err .eLevels := by
  rw [dmpEncResult, Ports.readLevels_eq, dmpPdu_of_gt _ h]

end Sys2Proof.Machine

namespace Sys2Proof

open Machine

/-- Settles O11 (41_dmp_layer.md R100): DMP.ENC has two results, its PDU and `E_LEVELS`, and each clause latches one. -/
theorem dmpEncEmitsThePdu : Obligations.DmpEncEmitsThePdu := by
  refine ⟨rfl, fun s => ⟨fun hle => ?pdu, fun hgt => ?tooManyLevels⟩⟩
  case pdu => exact exec_of_result_ok (dmpEncResult_of_le s.cfg hle) (Spec.dmpBytes_length _ _)
  case tooManyLevels => exact exec_of_result_err (c := .eLevels) (dmpEncResult_of_gt s.cfg hgt)

/-- Settles O12 (41_dmp_layer.md R102, R103): the output is the DMP PDU, read at its count, behind its count, and at its length
field. -/
theorem dmpLevelsComeBack : Obligations.DmpLevelsComeBack := by
  intro s hl
  have hcount := wordAt_dmpBytes_eight s.cfg hl
  refine ⟨_, exec_of_result_ok (dmpEncResult_of_le _ hl) rfl, rfl, hcount, ?countsTheRest,
    byteAt_of_drop_eq (drop_dmpBytes_ten _ _), slice_dmpBytes_eleven _ _, ?lengthField⟩
  case countsTheRest =>
    rw [hcount, drop_dmpBytes_ten, List.length_cons, Nat.add_comm]
  case lengthField =>
    rw [declaredAt_dmpBytes _ hl]
    omega

end Sys2Proof

namespace Sys2Proof.Machine

/-- FRM.ENC on a nested buffer of more than 4018 bytes (42_framing_layer.md R110). -/
theorem frmEncResult_of_gt (cfg : Config) {p : Ports} (h : 4095 < 77 + p.nested.length) : frmEncResult cfg p = .err .eLength := by
  rw [frmEncResult, Ports.readName_eq, Ports.readNested_eq, frmPdu_of_gt _ _ _ _ _ _ h]

/-- A name of up to 64 bytes is padded to the field's width (42_framing_layer.md R112). -/
theorem Spec.nameField_of_le {b : Bytes} (h : b.length ≤ 64) : Spec.nameField b = b ++ zeros (64 - b.length) := by
  rw [Spec.nameField, List.take_append, List.take_of_length_le h, List.take_replicate, Nat.min_eq_left (Nat.sub_le _ _)]

/-- A longer name is cut to the field's width (42_framing_layer.md R112). -/
theorem Spec.nameField_of_gt {b : Bytes} (h : 64 < b.length) : Spec.nameField b = b.take 64 :=
  List.take_append_of_le_length h.le

/-- The options byte has the force-synchronization bit (42_framing_layer.md R114). -/
theorem optionsValue_getLsbD_forceSyncBit (cfg : Config) : cfg.optionsValue.getLsbD cfg.forceSyncBit.val = true := by
  simp [Config.optionsValue, Config.optForceSync]

section FramingOffsets

variable (cfg : Config) (name : Bytes) (p q : Byte) (y u : Half) (d : Bytes)

/-- The data-framing PDU from its name field on, behind six bytes of length and vector (30_encoding.md R65). -/
theorem drop_frmBytes_six :
    (Spec.frmBytes cfg name p q y u d).drop 6 =
      Spec.nameField name ++ p :: 0x00#8 :: 0x00#8 :: (Spec.twoBytes y.toNat ++ q :: cfg.optionsValue ::
        (Spec.twoBytes u.toNat ++ d)) := by
  simp only [Spec.frmBytes, List.append_assoc, List.cons_append, List.nil_append]
  rfl

/-- The data-framing PDU behind its name field: an offset `70 + k` of it is the offset `k` of the fields that follow (30_encoding.md
R65). -/
theorem drop_frmBytes_seventy_add (k : Nat) :
    (Spec.frmBytes cfg name p q y u d).drop (70 + k) =
      (p :: 0x00#8 :: 0x00#8 :: (Spec.twoBytes y.toNat ++ q :: cfg.optionsValue :: (Spec.twoBytes u.toNat ++ d))).drop k := by
  rw [← List.drop_drop, ← List.drop_drop (i := 64) (j := 6), drop_frmBytes_six, List.drop_left' (Spec.nameField_length name)]

/-- Bytes 6 to 69 of a data-framing PDU are its name field (42_framing_layer.md R112). -/
theorem slice_frmBytes_name : slice (Spec.frmBytes cfg name p q y u d) 6 70 = Spec.nameField name := by
  rw [slice, drop_frmBytes_six, List.take_left' (Spec.nameField_length name)]

/-- Byte 70 is the priority (42_framing_layer.md R113). -/
theorem byteAt_frmBytes_priority : byteAt (Spec.frmBytes cfg name p q y u d) 70 = p :=
  byteAt_of_drop_eq (drop_frmBytes_seventy_add cfg name p q y u d 0)

/-- Bytes 73 and 74 are the sync universe (42_framing_layer.md R114). -/
theorem wordAt_frmBytes_syncUniverse : wordAt (Spec.frmBytes cfg name p q y u d) 73 = y.toNat :=
  wordAt_of_drop_eq (drop_frmBytes_seventy_add cfg name p q y u d 3) y.isLt

/-- Byte 75 is the sequence number (42_framing_layer.md R115). -/
theorem byteAt_frmBytes_sequence : byteAt (Spec.frmBytes cfg name p q y u d) 75 = q :=
  byteAt_of_drop_eq (drop_frmBytes_seventy_add cfg name p q y u d 5)

/-- Byte 76 is the options byte, whatever the operands (42_framing_layer.md R114). -/
theorem byteAt_frmBytes_options : byteAt (Spec.frmBytes cfg name p q y u d) 76 = cfg.optionsValue :=
  byteAt_of_drop_eq (drop_frmBytes_seventy_add cfg name p q y u d 6)

/-- Bytes 77 and 78 are the universe (42_framing_layer.md R115). -/
theorem wordAt_frmBytes_universe : wordAt (Spec.frmBytes cfg name p q y u d) 77 = u.toNat :=
  wordAt_of_drop_eq (drop_frmBytes_seventy_add cfg name p q y u d 7) u.isLt

end FramingOffsets

/-- The nested buffer of a root PDU starts at its byte 38 (30_encoding.md R64). -/
theorem byteAt_rootBytes_add (cfg : Config) {cid : Bytes} (n : Bytes) (i : Nat) (hc : cid.length = 16) :
    byteAt (Spec.rootBytes cfg cid n) (38 + i) = byteAt n i := by
  have hheader : (Spec.rootPrefix ++ Spec.lenBytes cfg (22 + n.length) ++ [0x00#8, 0x00#8, 0x00#8, 0x04#8] ++ cid).length = 38 := by
    simp [Spec.rootPrefix, hc]
  rw [Spec.rootBytes, byteAt_append_of_le (by omega), hheader, Nat.add_sub_cancel_left]

/-- Byte 108 of a data packet is its framing's priority byte, 100 (20_memory.md R44, 42_framing_layer.md R113). -/
theorem byteAt_dataPacket_priority (cfg : Config) {cid : Bytes} (name : Bytes) (u : Half) (l : Bytes) (q : Byte) (y : Half)
    (hc : cid.length = 16) : byteAt (Spec.dataPacket cfg cid name u l q y) 108 = 100#8 := by
  rw [← rootBytes_frmBytes_dmpBytes, byteAt_rootBytes_add cfg _ 70 hc, byteAt_frmBytes_priority]

end Sys2Proof.Machine

namespace Sys2Proof

open Machine

/-- Settles O13 (42_framing_layer.md R110): FRM.ENC has two results, its PDU and `E_LENGTH`, and each clause latches one. -/
theorem frmEncEmitsThePdu : Obligations.FrmEncEmitsThePdu := by
  refine ⟨rfl, fun s => ⟨fun hle => ?pdu, fun hgt => ?nestedTooLong⟩⟩
  case pdu => exact exec_of_result_ok (frmEncResult_of_le s.cfg hle) (Spec.frmBytes_length _ _ _ _ _ _ _)
  case nestedTooLong => exact exec_of_result_err (c := .eLength) (frmEncResult_of_gt s.cfg hgt)

/-- Settles O14 (42_framing_layer.md R112): bytes 6 to 69 of the PDU are the name field, padded or cut by the name's size. -/
theorem sourceNameIsPaddedOrCut : Obligations.SourceNameIsPaddedOrCut := by
  intro s hn
  exact ⟨_, exec_of_result_ok (frmEncResult_of_le _ hn) rfl, rfl,
    fun hle => (slice_frmBytes_name ..).trans (Spec.nameField_of_le hle),
    fun hgt => (slice_frmBytes_name ..).trans (Spec.nameField_of_gt hgt)⟩

/-- Settles O15 (42_framing_layer.md R113): byte 70 of the PDU, and the same byte behind the 38 bytes of a data packet's root
header. -/
theorem priorityIsNotChecked : Obligations.PriorityIsNotChecked := by
  refine ⟨fun s hn => ?frm, fun s c n sy hl hc => ?data⟩
  case frm => exact ⟨_, exec_of_result_ok (frmEncResult_of_le _ hn) rfl, rfl, byteAt_frmBytes_priority ..⟩
  case data =>
    exact ⟨_, exec_of_result_ok (buildDataResult_of_le hl hc) rfl, rfl,
      byteAt_dataPacket_priority _ _ _ _ _ _ (effectiveCid_length hc)⟩

/-- Settles O16 (42_framing_layer.md R114, R115): the PDU's fields behind its name field, each read at its offset. -/
theorem framingScalarsAreEmittedAsGiven : Obligations.FramingScalarsAreEmittedAsGiven := by
  intro s hn
  have hoptions := byteAt_frmBytes_options s.cfg s.ports.name s.ports.priority s.ports.sequence s.ports.syncUniverse s.ports.univ
    s.ports.nested
  refine ⟨_, exec_of_result_ok (frmEncResult_of_le _ hn) rfl, rfl, wordAt_frmBytes_syncUniverse .., byteAt_frmBytes_sequence ..,
    hoptions, ?forceSync, wordAt_frmBytes_universe ..⟩
  case forceSync =>
    rw [hoptions]
    exact optionsValue_getLsbD_forceSyncBit s.cfg

end Sys2Proof

namespace Sys2Proof

open Machine

/-- Settles O17 (43_sync_framing_layer.md R125): SYN.ENC has one result, its PDU, because the declared length is the constant 11
and so within the codec's range whatever the operands. -/
theorem synEncEmitsThePdu : Obligations.SynEncEmitsThePdu := by
  refine ⟨rfl, fun s => ?pdu⟩
  case pdu =>
    have hresult : commandResult .synEnc s.cfg s.ports = .ok (Spec.synBytes s.cfg s.ports.sequence s.ports.syncUniverse) :=
      synPdu_eq s.cfg s.ports.sequence s.ports.syncUniverse
    exact exec_of_result_ok hresult (Spec.synBytes_length _ _ _)

end Sys2Proof

namespace Sys2Proof.Machine

/-- ROOT.ENC on a CID of another size than 16, whatever the nested buffer (44_root_layer.md R137). -/
theorem rootEncResult_of_cid (cfg : Config) {p : Ports} (h : p.cid.length ≠ 16) : rootEncResult cfg p = .err .eCid := by
  rw [rootEncResult, Ports.readCid_eq, rootPdu_of_cid _ _ h]

/-- ROOT.ENC on a CID of 16 bytes and a nested buffer of more than 4073 (44_root_layer.md R135). -/
theorem rootEncResult_of_gt (cfg : Config) {p : Ports} (hc : p.cid.length = 16) (h : 4095 < 22 + p.nested.length) :
    rootEncResult cfg p = .err .eLength := by
  rw [rootEncResult, Ports.readCid_eq, Ports.readNested_eq, rootPdu_of_gt _ hc h]

section RootOffsets

variable (cfg : Config) (cid n : Bytes)

/-- A root PDU from its CID on, behind 22 bytes of prefix, length and vector (30_encoding.md R64). -/
theorem drop_rootBytes_twentyTwo : (Spec.rootBytes cfg cid n).drop 22 = cid ++ n := rfl

/-- Bytes 0 to 15 of a root PDU are the fixed prefix (44_root_layer.md R139). -/
theorem slice_rootBytes_prefix : slice (Spec.rootBytes cfg cid n) 0 16 = Spec.rootPrefix := rfl

/-- Bytes 18 to 21 are the root vector (44_root_layer.md R139). -/
theorem slice_rootBytes_vector : slice (Spec.rootBytes cfg cid n) 18 22 = [0x00#8, 0x00#8, 0x00#8, 0x04#8] := rfl

/-- Bytes 22 to 37 are the CID (44_root_layer.md R138). -/
theorem slice_rootBytes_cid (hc : cid.length = 16) : slice (Spec.rootBytes cfg cid n) 22 38 = cid := by
  rw [slice, drop_rootBytes_twentyTwo, List.take_left' hc]

end RootOffsets

/-- A command whose result is a root PDU leaves its fixed header and its CID in `OUT` (44_root_layer.md R138, R139). -/
theorem exec_emits_rootHeader {i : Instr} {s : State} {cid n : Bytes}
    (hr : commandResult i s.cfg s.ports = .ok (Spec.rootBytes s.cfg cid n)) (hc : cid.length = 16) :
    ∃ t, exec i s = .next t ∧ t.status = .ok ∧ slice t.out 0 16 = Spec.rootPrefix ∧
      slice t.out 18 22 = [0x00#8, 0x00#8, 0x00#8, 0x04#8] ∧ slice t.out 22 38 = cid :=
  ⟨_, exec_of_result_ok hr rfl, rfl, slice_rootBytes_prefix _ _ _, slice_rootBytes_vector _ _ _, slice_rootBytes_cid _ _ _ hc⟩

end Sys2Proof.Machine

namespace Sys2Proof

open Machine

/-- Settles O18 (44_root_layer.md R135, R137): ROOT.ENC has three results, its PDU, `E_CID` and `E_LENGTH`, and each clause latches
one. -/
theorem rootEncEmitsThePdu : Obligations.RootEncEmitsThePdu := by
  refine ⟨rfl, fun s => ⟨fun hc hle => ?pdu, fun hcid => ?badCid, fun hc hgt => ?nestedTooLong⟩⟩
  case pdu => exact exec_of_result_ok (rootEncResult_of_le s.cfg hc hle) (Spec.rootBytes_length _ _ hc)
  case badCid => exact exec_of_result_err (c := .eCid) (rootEncResult_of_cid s.cfg hcid)
  case nestedTooLong => exact exec_of_result_err (c := .eLength) (rootEncResult_of_gt s.cfg hc hgt)

/-- Settles O19 (44_root_layer.md R138, R139): the two builders' packets are root PDUs too, around the framing layer's output, so
the three commands leave one header. -/
theorem everyPacketHasThePrefixAndTheCid : Obligations.EveryPacketHasThePrefixAndTheCid := by
  refine fun s => ⟨fun hc hn => ?root, fun c n sy hl hc => ?data, fun c hc => ?sync⟩
  case root => exact exec_emits_rootHeader (rootEncResult_of_le _ hc hn) hc
  case data =>
    have hresult := buildDataResult_of_le (n := n) (sy := sy) hl hc
    rw [← rootBytes_frmBytes_dmpBytes] at hresult
    exact exec_emits_rootHeader (i := .buildData c n sy) hresult (effectiveCid_length hc)
  case sync =>
    have hresult := buildSyncResult_of_cid16 hc
    rw [← rootBytes_synBytes] at hresult
    exact exec_emits_rootHeader (i := .buildSync c) hresult (effectiveCid_length hc)

end Sys2Proof

namespace Sys2Proof.Machine

/-- Reading a byte of what is left behind an offset (00_scope.md R9). -/
theorem byteAt_drop (b : Bytes) (k i : Nat) : byteAt (b.drop k) i = byteAt b (k + i) := by
  rw [byteAt, byteAt, List.getD_eq_getElem?_getD, List.getD_eq_getElem?_getD, List.getElem?_drop]

/-- Reading a word of what is left behind an offset (20_memory.md R41). -/
theorem wordAt_drop (b : Bytes) (k i : Nat) : wordAt (b.drop k) i = wordAt b (k + i) := by
  rw [wordAt, wordAt, byteAt_drop, byteAt_drop, Nat.add_assoc]

/-- Reading a declared length of what is left behind an offset (40_length_codec.md R92). -/
theorem declaredAt_drop (b : Bytes) (k i : Nat) : declaredAt (b.drop k) i = declaredAt b (k + i) := by
  rw [declaredAt, declaredAt, byteAt_drop, byteAt_drop, Nat.add_assoc]

/-- Slicing what is left behind an offset (00_scope.md R9). -/
theorem slice_drop (b : Bytes) (k i j : Nat) : slice (b.drop k) i j = slice b (k + i) (k + j) := by
  rw [slice, slice, List.drop_drop, Nat.add_sub_add_left]

/-- The nested buffer of a root PDU is what follows its header of 38 bytes (30_encoding.md R64). -/
theorem drop_rootBytes_thirtyEight (cfg : Config) {cid : Bytes} (n : Bytes) (hc : cid.length = 16) :
    (Spec.rootBytes cfg cid n).drop 38 = n := by
  rw [← List.drop_drop (i := 16) (j := 22), drop_rootBytes_twentyTwo, List.drop_left' hc]

/-- The nested buffer of a data-framing PDU is what follows its header of 79 bytes (30_encoding.md R65). -/
theorem drop_frmBytes_seventyNine (cfg : Config) (name : Bytes) (p q : Byte) (y u : Half) (d : Bytes) :
    (Spec.frmBytes cfg name p q y u d).drop 79 = d :=
  drop_frmBytes_seventy_add cfg name p q y u d 9

/-- A name field is its own name field (42_framing_layer.md R112). -/
theorem Spec.nameField_nameField (b : Bytes) : Spec.nameField (Spec.nameField b) = Spec.nameField b := by
  rw [Spec.nameField_of_le (Spec.nameField_length b).le, Spec.nameField_length, Nat.sub_self]
  exact List.append_nil _

/-- What a name field keeps of its name: the first 64 bytes (45_packet_builder.md R158). -/
theorem Spec.take_nameField (b : Bytes) : (Spec.nameField b).take (min 64 b.length) = b.take 64 := by
  rw [Spec.nameField, List.take_take, Nat.min_eq_left (Nat.min_le_left _ _), List.take_append_of_le_length (Nat.min_le_right _ _),
    ← List.take_eq_take_min]

section DataPacketOffsets

variable {cfg : Config} {cid name l : Bytes} {u y : Half} {q : Byte} (hc : cid.length = 16)
include hc

/-- A data packet from byte 38 on is its data-framing PDU (20_memory.md R44). -/
theorem drop_dataPacket_framing :
    (Spec.dataPacket cfg cid name u l q y).drop 38 = Spec.frmBytes cfg name 100#8 q y u (Spec.dmpBytes cfg l) := by
  rw [← rootBytes_frmBytes_dmpBytes, drop_rootBytes_thirtyEight _ _ hc]

/-- A data packet from byte 117 on is its DMP PDU (20_memory.md R44). -/
theorem drop_dataPacket_dmp : (Spec.dataPacket cfg cid name u l q y).drop 117 = Spec.dmpBytes cfg l := by
  rw [← List.drop_drop (i := 79) (j := 38), drop_dataPacket_framing hc, drop_frmBytes_seventyNine]

/-- A data packet from byte 128 on is its levels (20_memory.md R44). -/
theorem drop_dataPacket_levels : (Spec.dataPacket cfg cid name u l q y).drop 128 = l := by
  rw [← List.drop_drop (i := 11) (j := 117), drop_dataPacket_dmp hc]
  rfl

/-- The DMP layer's declared length in a data packet (45_packet_builder.md R153). -/
theorem declaredAt_dataPacket_dmp (hl : l.length ≤ 512) :
    declaredAt (Spec.dataPacket cfg cid name u l q y) 117 = 11 + l.length := by
  rw [← declaredAt_drop _ 117 0, drop_dataPacket_dmp hc, declaredAt_dmpBytes _ hl]

/-- The framing layer's declared length in a data packet (45_packet_builder.md R153). -/
theorem declaredAt_dataPacket_framing (hl : l.length ≤ 512) :
    declaredAt (Spec.dataPacket cfg cid name u l q y) 38 = 88 + l.length := by
  have hfits : 77 + (Spec.dmpBytes cfg l).length ≤ 4095 := by rw [Spec.dmpBytes_length]; omega
  rw [← declaredAt_drop _ 38 0, drop_dataPacket_framing hc, declaredAt_frmBytes _ _ _ _ _ _ hfits, Spec.dmpBytes_length]
  omega

omit hc in
/-- The root layer's declared length in a data packet (45_packet_builder.md R153). -/
theorem declaredAt_dataPacket_root (hl : l.length ≤ 512) :
    declaredAt (Spec.dataPacket cfg cid name u l q y) 16 = 112 + l.length := by
  have hsize : (Spec.frmBytes cfg name 100#8 q y u (Spec.dmpBytes cfg l)).length = 90 + l.length := by
    rw [Spec.frmBytes_length, Spec.dmpBytes_length]
    omega
  rw [← rootBytes_frmBytes_dmpBytes, declaredAt_rootBytes _ _ (by omega), hsize]
  omega

/-- Every reading of 45_packet_builder.md R158 in a data packet gives what the packet was made of, the name as its 64-byte field. -/
theorem readDataPacket_dataPacket :
    readDataPacket (Spec.dataPacket cfg cid name u l q y) =
      { cid, univ := u.toNat, sequence := q, levels := l, syncUniverse := y.toNat, priority := 100#8,
        name := Spec.nameField name } := by
  rw [readDataPacket, DataFields.mk.injEq]
  refine ⟨?cidBytes, ?universeWord, ?sequenceByte, ?levelBytes, ?syncWord, byteAt_dataPacket_priority _ _ _ _ _ _ hc, ?nameBytes⟩
  case cidBytes => rw [← rootBytes_frmBytes_dmpBytes, slice_rootBytes_cid _ _ _ hc]
  case universeWord => rw [← wordAt_drop _ 38 77, drop_dataPacket_framing hc, wordAt_frmBytes_universe]
  case sequenceByte => rw [← byteAt_drop _ 38 75, drop_dataPacket_framing hc, byteAt_frmBytes_sequence]
  case levelBytes => rw [slice_length_eq_drop, drop_dataPacket_levels hc]
  case syncWord => rw [← wordAt_drop _ 38 73, drop_dataPacket_framing hc, wordAt_frmBytes_syncUniverse]
  case nameBytes => rw [← slice_drop _ 38 6 70, drop_dataPacket_framing hc, slice_frmBytes_name]

end DataPacketOffsets

/-- What a BUILD.DATA command is given, as 45_packet_builder.md R158 reads it back: its operands, or their defaults where they are
absent (R154), the name as its 64-byte field. -/
def State.dataFields (s : State) (c n sy : Bool) : DataFields where
  cid := s.effectiveCid c
  univ := s.ports.univ.toNat
  sequence := s.ports.sequence
  levels := s.ports.levels
  syncUniverse := (s.effectiveSync sy).toNat
  priority := 100#8
  name := Spec.nameField (s.effectiveName n)

/-- A BUILD.DATA that succeeds had operands it accepts: its other two results are errors (45_packet_builder.md R152). -/
theorem accepted_of_buildData_ok {s t : State} {c n sy : Bool} (h : exec (.buildData c n sy) s = .next t)
    (hok : t.status = .ok) : s.ports.levels.length ≤ 512 ∧ (c = true → s.ports.cid.length = 16) := by
  have hresult : (buildDataResult s.cfg c n sy s.ports).status = .ok := by
    rw [← hok, exec_eq_next h, State.latch_status, commandResult]
  have hl : s.ports.levels.length ≤ 512 := by
    by_contra hgt
    rw [buildDataResult_of_gt (not_le.mp hgt)] at hresult
    cases hresult
  refine ⟨hl, fun hc => ?_⟩
  subst hc
  by_contra hcid
  rw [buildDataResult_of_cid hl hcid] at hresult
  cases hresult

/-- The output of every BUILD.DATA that succeeds reads back as what the command was given (45_packet_builder.md R158). -/
theorem readDataPacket_of_buildData_ok {s t : State} {c n sy : Bool} (h : exec (.buildData c n sy) s = .next t)
    (hok : t.status = .ok) : readDataPacket t.out = s.dataFields c n sy := by
  obtain ⟨hl, hc⟩ := accepted_of_buildData_ok h hok
  have ht := exec_eq_next h
  rw [commandResult, buildDataResult_of_le hl hc] at ht
  rw [ht]
  exact readDataPacket_dataPacket (effectiveCid_length hc)

/-- Two commands with one result leave one latch (10_state.md R26, R28). -/
theorem exec_sameLatch_of_result_eq {i j : Instr} {s u : State}
    (h : commandResult i s.cfg s.ports = commandResult j u.cfg u.ports) :
    ∃ t v, exec i s = .next t ∧ exec j u = .next v ∧ t.SameLatch v :=
  ⟨_, _, exec_eq_latch i s, exec_eq_latch j u, h ▸ State.latch_sameLatch s u _⟩

/-- The framing layer cannot tell a name from its 64-byte field: it reads the name through `padTo` only (42_framing_layer.md
R112). -/
theorem frmPdu_nameField (cfg : Config) (name : Bytes) (p q : Byte) (y u : Half) (d : Bytes) :
    frmPdu cfg (Spec.nameField name) p q y u d = frmPdu cfg name p q y u d := by
  have hpad : padTo 64 (Spec.nameField name) = padTo 64 name := by
    rw [padTo_eq_take, padTo_eq_take]
    exact Spec.nameField_nameField name
  rw [frmPdu, frmPdu, Config.fixed_nameBytes, hpad]

theorem Ports.nameOr_true (cfg : Config) (p : Ports) : p.nameOr cfg true = p.name := Ports.readName_eq p

/-- BUILD.DATA cannot tell a supplied name from its 64-byte field either (45_packet_builder.md R158). -/
theorem buildDataResult_nameField (cfg : Config) (c sy : Bool) (p : Ports) :
    buildDataResult cfg c true sy { p with name := Spec.nameField p.name } = buildDataResult cfg c true sy p := by
  simp only [buildDataResult, Ports.nameOr_true, frmPdu_nameField]
  rfl

/-- Equal root PDUs carry equal CIDs, whatever the configurations (44_root_layer.md R138). -/
theorem cid_eq_of_rootBytes_eq {cfg cfg' : Config} {a b m n : Bytes} (h : Spec.rootBytes cfg a m = Spec.rootBytes cfg' b n)
    (ha : a.length = 16) (hb : b.length = 16) : a = b := by
  rw [← slice_rootBytes_cid cfg a m ha, h, slice_rootBytes_cid cfg' b n hb]

end Sys2Proof.Machine

namespace Sys2Proof

open Machine

/-- Settles O23 (45_packet_builder.md R158): the readings of an accepted command's output are the fields it was given, so two
commands with one output were given the same fields; of the name only the 64-byte field is among them. -/
theorem dataPacketIsRecoverable : Obligations.DataPacketIsRecoverable := by
  refine ⟨fun s c n sy hl hc => ?recovered, fun s s' t t' c n sy c' n' sy' h h' hok hok' hout => ?injective,
    fun s c sy => ?nameFieldOnly⟩
  case recovered =>
    have hcid := effectiveCid_length hc
    have hexec := exec_of_result_ok (i := .buildData c n sy) (buildDataResult_of_le hl hc) rfl
    have hread := readDataPacket_of_buildData_ok hexec rfl
    refine ⟨_, hexec, rfl, congrArg DataFields.cid hread, congrArg DataFields.univ hread, congrArg DataFields.sequence hread,
      congrArg DataFields.levels hread, ?byDeclaredLength, ?bySize, congrArg DataFields.syncUniverse hread,
      congrArg DataFields.priority hread, ?name⟩
    case byDeclaredLength =>
      rw [declaredAt_dataPacket_dmp hcid hl, Nat.add_sub_cancel_left]
    case bySize =>
      rw [Spec.dataPacket_length _ _ _ _ _ _ hcid, Nat.add_sub_cancel_left]
    case name =>
      rw [hread]
      exact Spec.take_nameField _
  case injective =>
    have hfields : s.dataFields c n sy = s'.dataFields c' n' sy' := by
      rw [← readDataPacket_of_buildData_ok h hok, ← readDataPacket_of_buildData_ok h' hok', hout]
    exact ⟨congrArg DataFields.cid hfields, BitVec.eq_of_toNat_eq (congrArg DataFields.univ hfields),
      congrArg DataFields.sequence hfields, congrArg DataFields.levels hfields,
      BitVec.eq_of_toNat_eq (congrArg DataFields.syncUniverse hfields)⟩
  case nameFieldOnly =>
    exact exec_sameLatch_of_result_eq (buildDataResult_nameField s.cfg c sy s.ports).symm

/-- Settles O22 (45_packet_builder.md R153): each layer's declared length, read at its offset in the packet. -/
theorem dataPacketDeclaredLengths : Obligations.DataPacketDeclaredLengths := by
  intro s c n sy hl hc
  have hcid := effectiveCid_length hc
  have hsize := Spec.dataPacket_length s.cfg (s.effectiveName n) s.ports.univ s.ports.levels s.ports.sequence
    (s.effectiveSync sy) hcid
  refine ⟨_, exec_of_result_ok (buildDataResult_of_le hl hc) hsize, rfl, declaredAt_dataPacket_dmp hcid hl, ?framingOverDmp,
    declaredAt_dataPacket_framing hcid hl, ?rootOverFraming, declaredAt_dataPacket_root hl, ?difference, hsize⟩
  case framingOverDmp =>
    rw [declaredAt_dataPacket_framing hcid hl, declaredAt_dataPacket_dmp hcid hl]
    omega
  case rootOverFraming =>
    rw [declaredAt_dataPacket_root hl, List.length_drop, hsize]
    omega
  case difference =>
    rw [declaredAt_dataPacket_root hl, declaredAt_dataPacket_framing hcid hl]
    omega

/-- Settles O24 (45_packet_builder.md R157): `commandResult` takes the ports and the configuration only; and both packets are root
PDUs around the default CID when the command supplies none, so equal ones would have equal default CIDs. -/
theorem packetsDependOnOperandsAndConfiguration : Obligations.PacketsDependOnOperandsAndConfiguration := by
  refine ⟨fun i s u hports hcfg => ?function, fun s cfg n sy hl hne => ?data, fun s cfg hne => ?sync⟩
  case function =>
    exact exec_sameLatch_of_result_eq (by rw [hports, hcfg])
  case data =>
    refine ⟨_, _, exec_of_result_ok (buildDataResult_of_le hl nofun) rfl,
      exec_of_result_ok (buildDataResult_of_le (s := { s with cfg := cfg }) hl nofun) rfl, rfl, rfl, fun hout => hne ?_⟩
    simp only [← rootBytes_frmBytes_dmpBytes] at hout
    exact Vector.toList_inj.mp (cid_eq_of_rootBytes_eq hout Vector.length_toList Vector.length_toList)
  case sync =>
    refine ⟨_, _, exec_of_result_ok (buildSyncResult_of_cid16 nofun) rfl,
      exec_of_result_ok (buildSyncResult_of_cid16 (s := { s with cfg := cfg }) nofun) rfl, rfl, rfl, fun hout => hne ?_⟩
    simp only [← rootBytes_synBytes] at hout
    exact Vector.toList_inj.mp (cid_eq_of_rootBytes_eq hout Vector.length_toList Vector.length_toList)

/-- Settles O26 (45_packet_builder.md R156): the sync packet is a root PDU around 13 bytes, whose own declared length is 11. -/
theorem syncPacketHasFixedSize : Obligations.SyncPacketHasFixedSize := by
  intro s c hc
  have hcid := effectiveCid_length hc
  have hsize := Spec.syncPacket_length s.cfg s.ports.sequence s.ports.syncUniverse hcid
  have hroot : declaredAt (Spec.syncPacket s.cfg (s.effectiveCid c) s.ports.sequence s.ports.syncUniverse) 16 = 35 := by
    rw [← rootBytes_synBytes, declaredAt_rootBytes _ _ (by rw [Spec.synBytes_length]; omega), Spec.synBytes_length]
  refine ⟨_, exec_of_result_ok (buildSyncResult_of_cid16 hc) hsize, rfl, rfl, hsize, hroot, hroot, ?framing⟩
  case framing =>
    rw [← declaredAt_drop _ 38 0, ← rootBytes_synBytes, drop_rootBytes_thirtyEight _ _ hcid, declaredAt_synBytes]

end Sys2Proof

namespace Sys2Proof.Machine

/-- The result of a host's sequence of calls as R150 and R151 compose stages: each call is built from the bytes of the one before
it, and the first error is the result (30_encoding.md R79). `out` is what stands in `OUT` when the host starts. -/
def callsResult (cfg : Config) : List (Bytes → Call) → Bytes → Result
  | [], out => .ok out
  | f :: fs, out => (commandResult (f out).instr cfg (f out).ports).andThen (callsResult cfg fs)

/-- A host goes on with its next call after a call that succeeds. -/
theorem hostRun_cons_of_ok {f : Bytes → Call} {s : State} {b : Bytes} (fs : List (Bytes → Call))
    (h : commandResult (f s.out).instr s.cfg (f s.out).ports = .ok b) :
    hostRun (f :: fs) s = hostRun fs ((s.present (f s.out).ports []).succeed b) := by
  simp [hostRun, issueCall_eq_latch, h]

/-- A host stops at a call that reports an error (45_packet_builder.md R160). -/
theorem hostRun_cons_of_err {f : Bytes → Call} {s : State} {c : ErrCode} (fs : List (Bytes → Call))
    (h : commandResult (f s.out).instr s.cfg (f s.out).ports = .err c) :
    hostRun (f :: fs) s = .next ((s.present (f s.out).ports []).takeError c) := by
  have hne : c.status ≠ .ok := by cases c <;> decide
  simp [hostRun, issueCall_eq_latch, h, hne]

/-- A command overwrites the latch and the ports that the call before it left (10_state.md R28). -/
theorem present_succeed_present_latch (s : State) (p p' : Ports) (b : Bytes) (r : Result) :
    (((s.present p []).succeed b).present p' []).latch r = (s.present p' []).latch r := by
  cases r <;> rfl

theorem callsResult_cons_of_ok {cfg : Config} {f : Bytes → Call} {out b : Bytes} (fs : List (Bytes → Call))
    (h : commandResult (f out).instr cfg (f out).ports = .ok b) : callsResult cfg (f :: fs) out = callsResult cfg fs b := by
  rw [callsResult, h, Result.andThen_ok]

theorem callsResult_cons_of_err {cfg : Config} {f : Bytes → Call} {out : Bytes} {c : ErrCode} (fs : List (Bytes → Call))
    (h : commandResult (f out).instr cfg (f out).ports = .err c) : callsResult cfg (f :: fs) out = .err c := by
  rw [callsResult, h, Result.andThen_err]

/-- Everything a host's run of at least one call can do: it latches the calls' composed result, with the operands of the last call
it issued on the ports. -/
theorem hostRun_eq_latch (f : Bytes → Call) (fs : List (Bytes → Call)) (s : State) :
    ∃ p, hostRun (f :: fs) s = .next ((s.present p []).latch (callsResult s.cfg (f :: fs) s.out)) := by
  induction fs generalizing f s with
  | nil =>
    refine ⟨(f s.out).ports, ?_⟩
    cases hr : commandResult (f s.out).instr s.cfg (f s.out).ports with
    | ok b =>
      rw [hostRun_cons_of_ok _ hr, callsResult_cons_of_ok _ hr]
      rfl
    | err c =>
      rw [hostRun_cons_of_err _ hr, callsResult_cons_of_err _ hr]
      rfl
  | cons g gs ih =>
    cases hr : commandResult (f s.out).instr s.cfg (f s.out).ports with
    | ok b =>
      obtain ⟨p, hp⟩ := ih g ((s.present (f s.out).ports []).succeed b)
      refine ⟨p, ?_⟩
      rw [hostRun_cons_of_ok _ hr, callsResult_cons_of_ok _ hr, hp, present_succeed_present_latch]
      rfl
    | err c =>
      refine ⟨(f s.out).ports, ?_⟩
      rw [hostRun_cons_of_err _ hr, callsResult_cons_of_err _ hr]
      rfl

/-- A call and a host's run with one result leave one latch (10_state.md R28). -/
theorem issueCall_sameLatch_hostRun {c : Call} {f : Bytes → Call} {fs : List (Bytes → Call)} {s : State}
    (h : commandResult c.instr s.cfg c.ports = callsResult s.cfg (f :: fs) s.out) :
    ∃ t u, issueCall c s = .next t ∧ hostRun (f :: fs) s = .next u ∧ t.SameLatch u := by
  obtain ⟨p, hp⟩ := hostRun_eq_latch f fs s
  exact ⟨_, _, issueCall_eq_latch c s, hp, h ▸ State.latch_sameLatch _ _ _⟩

/-- Ports driven with an optional CID give it, or the default where it is absent (45_packet_builder.md R154). -/
theorem Ports.cidOr_isSome {p : Ports} (cfg : Config) {cid : Option Bytes} (h : p.cid = cid.getD []) :
    p.cidOr cfg cid.isSome = cid.getD cfg.defaultCid.toList := by
  cases cid <;> simp [Ports.cidOr, h, defaultCidBytes_eq]

/-- Ports driven with an optional name give it, or the default where it is absent (45_packet_builder.md R154). -/
theorem Ports.nameOr_isSome {p : Ports} (cfg : Config) {name : Option Bytes} (h : p.name = name.getD []) :
    p.nameOr cfg name.isSome = name.getD cfg.defaultName := by
  cases name <;> simp [Ports.nameOr, h]

/-- Ports driven with an optional sync universe give it, or 0 where it is absent (45_packet_builder.md R152, R154). -/
theorem Ports.syncOr_isSome {p : Ports} (cfg : Config) {sync : Option Half} (h : p.syncUniverse = sync.getD 0#16) :
    p.syncOr cfg sync.isSome = sync.getD 0#16 := by
  cases sync <;> simp [Ports.syncOr, h]

/-- Handing a result on unchanged is no further stage. -/
theorem Result.andThen_ok_right (r : Result) : r.andThen .ok = r := by cases r <;> rfl

/-! The result of each call that 45_packet_builder.md R160 speaks of, in terms of the layers' functions. -/

theorem commandResult_dmpCall (cfg : Config) (levels : Bytes) :
    commandResult (Call.dmp levels).instr cfg (Call.dmp levels).ports = dmpPdu cfg levels :=
  congrArg (dmpPdu cfg) (readWhole_eq levels)

theorem commandResult_frmCall (cfg : Config) (name : Bytes) (p q : Byte) (y u : Half) (d : Bytes) :
    commandResult (Call.frm name p q y u d).instr cfg (Call.frm name p q y u d).ports = frmPdu cfg name p q y u d :=
  congrArg₂ (frmPdu cfg · p q y u ·) (readWhole_eq name) (readWhole_eq d)

theorem commandResult_synCall (cfg : Config) (q : Byte) (y : Half) :
    commandResult (Call.syn q y).instr cfg (Call.syn q y).ports = synPdu cfg q y := rfl

theorem commandResult_rootCall (cfg : Config) (cid n : Bytes) :
    commandResult (Call.root cid n).instr cfg (Call.root cid n).ports = rootPdu cfg cid n :=
  congrArg₂ (rootPdu cfg) (readWhole_eq cid) (readWhole_eq n)

/-- BUILD.DATA's expansion composes the DMP, framing and root layers in that order (30_encoding.md R79). -/
theorem callsResult_dataExpansion (cfg : Config) (cid name : Bytes) (u : Half) (l : Bytes) (q : Byte) (y : Half) (out : Bytes) :
    callsResult cfg (dataExpansion cid name u l q y) out =
      (dmpPdu cfg l).andThen fun d => (frmPdu cfg name 100#8 q y u d).andThen fun f => rootPdu cfg cid f := by
  simp only [dataExpansion, callsResult, commandResult_dmpCall, commandResult_frmCall, commandResult_rootCall,
    FixedParams.document_defaultPriority, Result.andThen_ok_right]

/-- A BUILD.DATA call composes the same layers, with the defaults in place of absent operands (45_packet_builder.md R152, R154). -/
theorem commandResult_buildDataCall (cfg : Config) (cid name : Option Bytes) (u : Half) (l : Bytes) (q : Byte) (y : Option Half) :
    commandResult (Call.buildData cid name u l q y).instr cfg (Call.buildData cid name u l q y).ports =
      (dmpPdu cfg l).andThen fun d =>
        (frmPdu cfg (name.getD cfg.defaultName) 100#8 q (y.getD 0#16) u d).andThen fun f =>
          rootPdu cfg (cid.getD cfg.defaultCid.toList) f := by
  rw [Call.instr, commandResult, buildDataResult, Ports.readLevels_eq, Ports.cidOr_isSome cfg rfl, Ports.nameOr_isSome cfg rfl,
    Ports.syncOr_isSome cfg rfl, Config.fixed_defaultPriority]
  rfl

/-- BUILD.SYNC's expansion composes the sync-framing and root layers in that order (30_encoding.md R79). -/
theorem callsResult_syncExpansion (cfg : Config) (cid : Bytes) (q : Byte) (y : Half) (out : Bytes) :
    callsResult cfg (syncExpansion cid q y) out = (synPdu cfg q y).andThen fun f => rootPdu cfg cid f := by
  simp only [syncExpansion, callsResult, commandResult_synCall, commandResult_rootCall, Result.andThen_ok_right]

/-- A BUILD.SYNC call composes the same layers, with the default CID in place of an absent one (45_packet_builder.md R154, R155). -/
theorem commandResult_buildSyncCall (cfg : Config) (cid : Option Bytes) (q : Byte) (y : Half) :
    commandResult (Call.buildSync cid q y).instr cfg (Call.buildSync cid q y).ports =
      (synPdu cfg q y).andThen fun f => rootPdu cfg (cid.getD cfg.defaultCid.toList) f := by
  rw [Call.instr, commandResult, buildSyncResult, Ports.cidOr_isSome cfg rfl]
  rfl

end Sys2Proof.Machine

namespace Sys2Proof

open Machine

/-- Settles O27 (45_packet_builder.md R160): the builder's call and the host's run both latch the composition of the layers'
functions, in which the first error is the result. -/
theorem buildersEqualTheirExpansions : Obligations.BuildersEqualTheirExpansions := by
  refine ⟨fun s cid name u l q y => ?data, fun s cid q y => ?sync⟩
  case data =>
    exact issueCall_sameLatch_hostRun
      ((commandResult_buildDataCall _ _ _ _ _ _ _).trans (callsResult_dataExpansion _ _ _ _ _ _ _ s.out).symm)
  case sync =>
    exact issueCall_sameLatch_hostRun
      ((commandResult_buildSyncCall _ _ _ _).trans (callsResult_syncExpansion _ _ _ _ s.out).symm)

end Sys2Proof

namespace Sys2Proof.Machine

/-- The causes of each error, instruction by instruction (60_exceptions.md R171), with the order of the checks (R178) written into
those of ROOT.ENC and BUILD.DATA. SYN.ENC has none. -/
def State.ErrorCause (s : State) : Instr → ErrCode → Prop
  | .lenEnc, e => e = .eLength ∧ 4095 < s.ports.lenIn
  | .dmpEnc, e => e = .eLevels ∧ 512 < s.ports.levels.length
  | .frmEnc, e => e = .eLength ∧ 4019 ≤ s.ports.nested.length
  | .synEnc, _ => False
  | .rootEnc, e =>
    (e = .eCid ∧ s.ports.cid.length ≠ 16) ∨ (e = .eLength ∧ s.ports.cid.length = 16 ∧ 4074 ≤ s.ports.nested.length)
  | .buildData c _ _, e =>
    (e = .eLevels ∧ 512 < s.ports.levels.length) ∨
      (e = .eCid ∧ c = true ∧ s.ports.cid.length ≠ 16 ∧ s.ports.levels.length ≤ 512)
  | .buildSync c, e => e = .eCid ∧ c = true ∧ s.ports.cid.length ≠ 16

/-! Each operation's result is an error exactly when the table has a cause for it: the split is on the operation's own checks, in the
order it makes them. -/

theorem lenEncResult_eq_err_iff {s : State} {e : ErrCode} :
    lenEncResult s.cfg s.ports = .err e ↔ s.ErrorCause .lenEnc e := by
  rcases le_or_gt s.ports.lenIn 4095 with hle | hgt
  · simp [lenEncResult, State.ErrorCause, lenField_eq_lenBytes _ hle, hle]
  · simp [lenEncResult, State.ErrorCause, lenField_of_gt _ hgt, hgt, eq_comm]

theorem dmpEncResult_eq_err_iff {s : State} {e : ErrCode} :
    dmpEncResult s.cfg s.ports = .err e ↔ s.ErrorCause .dmpEnc e := by
  rcases le_or_gt s.ports.levels.length 512 with hle | hgt
  · simp [State.ErrorCause, dmpEncResult_of_le _ hle, hle]
  · simp [State.ErrorCause, dmpEncResult_of_gt _ hgt, hgt, eq_comm]

theorem frmEncResult_eq_err_iff {s : State} {e : ErrCode} :
    frmEncResult s.cfg s.ports = .err e ↔ s.ErrorCause .frmEnc e := by
  rcases lt_or_ge s.ports.nested.length 4019 with hlt | hge
  · simp [State.ErrorCause, frmEncResult_of_le _ (by omega : 77 + s.ports.nested.length ≤ 4095), hlt]
  · simp [State.ErrorCause, frmEncResult_of_gt _ (by omega : 4095 < 77 + s.ports.nested.length), hge, eq_comm]

theorem synEncResult_eq_err_iff {s : State} {e : ErrCode} :
    synEncResult s.cfg s.ports = .err e ↔ s.ErrorCause .synEnc e := by
  simp [synEncResult, State.ErrorCause, synPdu_eq]

theorem rootEncResult_eq_err_iff {s : State} {e : ErrCode} :
    rootEncResult s.cfg s.ports = .err e ↔ s.ErrorCause .rootEnc e := by
  by_cases hcid : s.ports.cid.length = 16
  · rcases lt_or_ge s.ports.nested.length 4074 with hlt | hge
    · simp [State.ErrorCause, rootEncResult_of_le _ hcid (by omega : 22 + s.ports.nested.length ≤ 4095), hcid, hlt]
    · simp [State.ErrorCause, rootEncResult_of_gt _ hcid (by omega : 4095 < 22 + s.ports.nested.length), hcid, hge, eq_comm]
  · simp [State.ErrorCause, rootEncResult_of_cid _ hcid, hcid, eq_comm]

theorem buildDataResult_eq_err_iff {s : State} {c n sy : Bool} {e : ErrCode} :
    buildDataResult s.cfg c n sy s.ports = .err e ↔ s.ErrorCause (.buildData c n sy) e := by
  rcases le_or_gt s.ports.levels.length 512 with hle | hgt
  · by_cases hc : c = true → s.ports.cid.length = 16
    · simpa [State.ErrorCause, buildDataResult_of_le hle hc, hle.not_gt, hle] using fun _ => hc
    · obtain ⟨rfl, hcid⟩ := Classical.not_imp.mp hc
      simp [State.ErrorCause, buildDataResult_of_cid hle hcid, hle, hcid, eq_comm]
  · simp [State.ErrorCause, buildDataResult_of_gt hgt, hgt, hgt.not_ge, eq_comm]

theorem buildSyncResult_eq_err_iff {s : State} {c : Bool} {e : ErrCode} :
    buildSyncResult s.cfg c s.ports = .err e ↔ s.ErrorCause (.buildSync c) e := by
  by_cases hc : c = true → s.ports.cid.length = 16
  · simpa [State.ErrorCause, buildSyncResult_of_cid16 hc] using fun _ => hc
  · obtain ⟨rfl, hcid⟩ := Classical.not_imp.mp hc
    simp [State.ErrorCause, buildSyncResult_of_cid hcid, hcid, eq_comm]

/-- The table is the model's: what it lists for an instruction is exactly what the instruction reports (60_exceptions.md R171). -/
theorem commandResult_eq_err_iff {i : Instr} {s : State} {e : ErrCode} :
    commandResult i s.cfg s.ports = .err e ↔ s.ErrorCause i e := by
  cases i with
  | lenEnc => exact lenEncResult_eq_err_iff
  | dmpEnc => exact dmpEncResult_eq_err_iff
  | frmEnc => exact frmEncResult_eq_err_iff
  | synEnc => exact synEncResult_eq_err_iff
  | rootEnc => exact rootEncResult_eq_err_iff
  | buildData c n sy => exact buildDataResult_eq_err_iff
  | buildSync c => exact buildSyncResult_eq_err_iff

/-- The three error codes have three statuses, and none is `OK` (10_state.md R26). -/
theorem Result.status_eq_iff {r : Result} {e : ErrCode} : r.status = e.status ↔ r = .err e := by
  cases r with
  | ok b => cases e <;> simp [Result.status, ErrCode.status]
  | err c => cases c <;> cases e <;> simp [Result.status, ErrCode.status]

/-- So is the status that a command leaves (10_state.md R26). -/
theorem exec_status_eq_iff {i : Instr} {s t : State} (h : exec i s = .next t) (e : ErrCode) :
    t.status = e.status ↔ s.ErrorCause i e := by
  rw [exec_eq_next h, State.latch_status, Result.status_eq_iff, commandResult_eq_err_iff]

/-- `STATUS` holds `OK` or one of the error codes (10_state.md R26). -/
theorem Status.exists_errCode_of_ne_ok {x : Status} (h : x ≠ .ok) : ∃ e : ErrCode, x = e.status := by
  cases x with
  | ok => exact absurd rfl h
  | eLevels => exact ⟨.eLevels, rfl⟩
  | eCid => exact ⟨.eCid, rfl⟩
  | eLength => exact ⟨.eLength, rfl⟩

/-- A command that ends with an error leaves its code and nothing else (60_exceptions.md R176). -/
theorem exec_eq_failed_of_ne_ok {i : Instr} {s t : State} (h : exec i s = .next t) (hne : t.status ≠ .ok) :
    t = s.failed t.status := by
  obtain ⟨e, he⟩ := Status.exists_errCode_of_ne_ok hne
  have hresult := commandResult_eq_err_iff.mpr ((exec_status_eq_iff h e).mp he)
  rw [he]
  exact Host.Outcome.next.inj (h.symm.trans (exec_of_result_err hresult))

/-- Every operation but ROOT.ENC and BUILD.DATA with a supplied CID has causes for one error at most (60_exceptions.md R178). -/
theorem State.ErrorCause.unique {i : Instr} (hroot : i ≠ .rootEnc) (hdata : ∀ n sy, i ≠ .buildData true n sy) :
    ∃ e, ∀ (s : State) (e' : ErrCode), s.ErrorCause i e' → e' = e := by
  cases i with
  | lenEnc => exact ⟨.eLength, fun _ _ h => h.1⟩
  | dmpEnc => exact ⟨.eLevels, fun _ _ h => h.1⟩
  | frmEnc => exact ⟨.eLength, fun _ _ h => h.1⟩
  | synEnc => exact ⟨.eLength, fun _ _ h => h.elim⟩
  | rootEnc => exact absurd rfl hroot
  | buildData c n sy =>
    cases c with
    | true => exact absurd rfl (hdata n sy)
    | false => exact ⟨.eLevels, fun _ _ h => (h.resolve_right fun ⟨_, hc, _⟩ => nomatch hc).1⟩
  | buildSync c => exact ⟨.eCid, fun _ _ h => h.1⟩

end Sys2Proof.Machine

namespace Sys2Proof

open Machine

/-- Settles O28 (60_exceptions.md R171): the status is an error's exactly when the table `State.ErrorCause` has a cause for it, and
each clause collects one error's rows. -/
theorem errorCausesAreExact : Obligations.ErrorCausesAreExact := by
  refine ⟨⟨rfl, rfl, rfl, rfl⟩, fun i s => ?causes⟩
  case causes =>
    have hexec := exec_eq_latch i s
    have hstatus := exec_status_eq_iff hexec
    refine ⟨_, hexec, (hstatus .eLevels).trans ?levels, (hstatus .eCid).trans ?cid, (hstatus .eLength).trans ?length,
      exec_eq_failed_of_ne_ok hexec⟩
    case levels => cases i <;> simp [State.ErrorCause]
    case cid => cases i <;> simp [State.ErrorCause, and_comm, and_left_comm]
    case length => cases i <;> simp [State.ErrorCause]

/-- Settles O29 (60_exceptions.md R178): with two causes the earlier check is the result; every other operation has one error in
the table. -/
theorem errorPriority : Obligations.ErrorPriority := by
  refine ⟨fun s n sy hl _ => ?data, fun s hcid _ => ?root, fun i hroot hdata => ?others⟩
  case data => exact exec_of_result_err (c := .eLevels) (buildDataResult_of_gt hl)
  case root => exact exec_of_result_err (c := .eCid) (rootEncResult_of_cid s.cfg hcid)
  case others =>
    obtain ⟨e, hunique⟩ := State.ErrorCause.unique hroot hdata
    refine ⟨e.status, fun s t hexec hne => ?_⟩
    obtain ⟨e', he'⟩ := Status.exists_errCode_of_ne_ok hne
    rw [he', hunique s e' ((exec_status_eq_iff hexec e').mp he')]

/-- Settles O30 (60_exceptions.md R176): `State.failed`, which an error leaves, is the state that the rule gives. -/
theorem errorsArePrecise : Obligations.ErrorsArePrecise := fun _ _ _ => exec_eq_failed_of_ne_ok

/-- Settles O40 (60_exceptions.md R188): the two bytes of the address that depend on the universe are its `be16`. -/
theorem multicastAddressOfAUniverse : Obligations.MulticastAddressOfAUniverse := by
  refine ⟨fun u => ?derived, by decide, by decide, fun u given t h => ?constructed⟩
  case derived =>
    have hbytes := be16_eq_div_mod u
    simp only [be16, List.cons.injEq, and_true] at hbytes
    obtain ⟨hhigh, hlow⟩ := hbytes
    rw [multicastAddress, hhigh, hlow]
  case constructed =>
    cases h
    rfl

end Sys2Proof

namespace Sys2Proof.Machine

/-- A success fits the latch: it has at most the bytes of the largest ROOT.ENC result (44_root_layer.md R135). An error has none. -/
def Result.Fits (r : Result) : Prop := ∀ b, r = .ok b → b.length ≤ maxOut

theorem Result.fits_ok {b : Bytes} (h : b.length ≤ 4111) : (Result.ok b).Fits := fun _ hb => Result.ok.inj hb ▸ h

theorem Result.fits_err (c : ErrCode) : (Result.err c).Fits := nofun

/-- A sequence of stages fits when its last stage does, since its success is the last stage's (45_packet_builder.md R151). -/
theorem Result.Fits.andThen {f : Bytes → Result} (r : Result) (h : ∀ a, (f a).Fits) : (r.andThen f).Fits := by
  cases r with
  | ok a => exact h a
  | err c => exact Result.fits_err c

/-! Each layer's success fits: the split is on the layer's own check. -/

theorem lenField_fits (cfg : Config) (v : Nat) : (lenField cfg v).Fits := by
  rcases le_or_gt v 4095 with hle | hgt
  · rw [lenField_eq_lenBytes cfg hle]
    exact Result.fits_ok (by rw [Spec.lenBytes_length]; omega)
  · rw [lenField_of_gt cfg hgt]
    exact Result.fits_err _

theorem dmpPdu_fits (cfg : Config) (l : Bytes) : (dmpPdu cfg l).Fits := by
  rcases le_or_gt l.length 512 with hle | hgt
  · rw [dmpPdu_of_le cfg hle]
    exact Result.fits_ok (by rw [Spec.dmpBytes_length]; omega)
  · rw [dmpPdu_of_gt cfg hgt]
    exact Result.fits_err _

theorem frmPdu_fits (cfg : Config) (name : Bytes) (p q : Byte) (y u : Half) (d : Bytes) :
    (frmPdu cfg name p q y u d).Fits := by
  rcases le_or_gt (77 + d.length) 4095 with hle | hgt
  · rw [frmPdu_of_le cfg name p q y u hle]
    exact Result.fits_ok (by rw [Spec.frmBytes_length]; omega)
  · rw [frmPdu_of_gt cfg name p q y u hgt]
    exact Result.fits_err _

theorem synPdu_fits (cfg : Config) (q : Byte) (y : Half) : (synPdu cfg q y).Fits := by
  rw [synPdu_eq]
  exact Result.fits_ok (by rw [Spec.synBytes_length]; omega)

/-- The bound is reached here: `22 + |NESTED| ≤ 4095` is `38 + |NESTED| ≤ 4111`. -/
theorem rootPdu_fits (cfg : Config) (cid n : Bytes) : (rootPdu cfg cid n).Fits := by
  by_cases hcid : cid.length = 16
  · rcases le_or_gt (22 + n.length) 4095 with hle | hgt
    · rw [rootPdu_of_le cfg hcid hle]
      exact Result.fits_ok (by rw [Spec.rootBytes_length _ _ hcid]; omega)
    · rw [rootPdu_of_gt cfg hcid hgt]
      exact Result.fits_err _
  · rw [rootPdu_of_cid cfg n hcid]
    exact Result.fits_err _

/-- Every command's result fits the latch; a builder's because its last stage is the root layer (45_packet_builder.md R150). -/
theorem commandResult_fits (i : Instr) (cfg : Config) (p : Ports) : (commandResult i cfg p).Fits := by
  cases i with
  | lenEnc => exact lenField_fits _ _
  | dmpEnc => exact dmpPdu_fits _ _
  | frmEnc => exact frmPdu_fits _ _ _ _ _ _ _
  | synEnc => exact synPdu_fits _ _ _
  | rootEnc => exact rootPdu_fits _ _ _
  | buildData c n sy => exact .andThen _ fun _ => .andThen _ fun _ => rootPdu_fits _ _ _
  | buildSync c => exact .andThen _ fun _ => rootPdu_fits _ _ _

/-- `OUT_N` is the size of `OUT` after every command (10_state.md R26). -/
theorem State.latch_outN (s : State) (r : Result) : (s.latch r).outN = (s.latch r).out.length := by
  cases r <;> rfl

/-- Latching a result that fits leaves a consistent latch, whatever the latch was (20_memory.md R43). -/
theorem State.latch_latched (s : State) {r : Result} (h : r.Fits) : (s.latch r).Latched := by
  cases r with
  | ok b => exact ⟨rfl, fun hne => absurd rfl hne, h b rfl⟩
  | err c => exact ⟨rfl, fun _ => rfl, Nat.zero_le _⟩

/-- The latch that reset leaves is that of an empty success (10_state.md R33). -/
theorem State.resetLatch_eq_latch (s : State) : s.resetLatch = s.latch (.ok []) := rfl

/-- A step that answers a next state left the block idle or latched a result that fits. -/
theorem step_eq_self_or_latches {s t : State} (h : step s = .next t) :
    t = s ∨ ∃ p rest r, r.Fits ∧ t = (s.present p rest).latch r := by
  have hempty : (Result.ok []).Fits := Result.fits_ok (Nat.zero_le _)
  obtain ⟨-, rfl⟩ | ⟨p, rest, i, -, -, rfl⟩ | ⟨rest, -, rfl⟩ | ⟨p, rest, -, rfl⟩ := step_cases h
  · exact .inl rfl
  · exact .inr ⟨p, rest, _, commandResult_fits i s.cfg p, rfl⟩
  · exact .inr ⟨s.ports, rest, _, hempty, State.resetLatch_eq_latch _⟩
  · exact .inr ⟨p, rest, _, hempty, State.resetLatch_eq_latch _⟩

theorem step_keeps_latched {s t : State} (h : step s = .next t) (hs : s.Latched) : t.Latched := by
  obtain rfl | ⟨p, rest, r, hfits, rfl⟩ := step_eq_self_or_latches h
  · exact hs
  · exact State.latch_latched _ hfits

theorem step_keeps_cfg {s t : State} (h : step s = .next t) : t.cfg = s.cfg := by
  obtain rfl | ⟨p, rest, r, -, rfl⟩ := step_eq_self_or_latches h
  · rfl
  · rw [State.latch_cfg, State.present_cfg]

end Sys2Proof.Machine

namespace Sys2Proof

open Machine

/-- Settles O34 (10_state.md R26, 20_memory.md R43, 70_reset_and_hazards.md R200): an idle step keeps the state, and every other step
latches a result of at most 4111 bytes. -/
theorem everyStepKeepsTheLatchConsistent : Obligations.EveryStepKeepsTheLatchConsistent := fun _ _ hs h =>
  ⟨step_keeps_latched h hs, step_keeps_cfg h⟩

/-- Settles O35 (10_state.md R33): no byte, no error. -/
theorem resetLatchIsConsistent : Obligations.ResetLatchIsConsistent :=
  ⟨rfl, fun _ => rfl, Nat.zero_le _⟩

/-- Settles O7: the values of 10_state.md R33. -/
theorem resetLatchValues : Obligations.ResetLatchValues := ⟨rfl, rfl, rfl, rfl⟩

/-- Settles O32 (00_scope.md R10, 10_state.md R21, R26): latching a result writes `STATUS`, `OUT_N` and `OUT` only. -/
theorem commandsWriteOnlyTheLatch : Obligations.CommandsWriteOnlyTheLatch := fun i s =>
  ⟨_, exec_eq_latch i s, State.latch_ports _ _, State.latch_cfg _ _, State.latch_issue _ _, fun _ => State.latch_outN _ _⟩

end Sys2Proof

namespace Sys2Proof.Machine

/-- An idle block (60_exceptions.md R192, log 5). -/
theorem step_idle {s : State} (hi : s.issue = []) : step s = .next s := by
  simp [step, hi]

/-- A reset of an idle block (70_reset_and_hazards.md R200). -/
theorem step_reset {s : State} {rest : List HostMove} (hi : s.issue = .reset :: rest) :
    step s = .next (s.present s.ports rest).resetLatch := by
  simp [step, hi]

/-- A reset during a command, which is abandoned (70_reset_and_hazards.md R200, log 8). -/
theorem step_resetDuring {s : State} {p : Ports} {rest : List HostMove} (hi : s.issue = .resetDuring p :: rest) :
    step s = .next (s.present p rest).resetLatch := by
  simp [step, hi]

/-- Decoding an instruction's encoding gives it back (30_encoding.md R74). -/
theorem decode_encode (i : Instr) : decode (encode i) = .ok i := by
  cases i with
  | lenEnc => rfl
  | dmpEnc => rfl
  | frmEnc => rfl
  | synEnc => rfl
  | rootEnc => rfl
  | buildData c n sy => decide +revert
  | buildSync c => decide +revert

/-- A byte that decodes to an instruction is its encoding: no two descriptors of 30_encoding.md R74 share an instruction. -/
theorem encode_of_decode {cmd : Byte} {i : Instr} (h : decode cmd = .ok i) : encode i = cmd := by
  have hall : ∀ b : BitVec 8, (match decode b with | .ok j => encode j | .reserved _ => b) = b := by decide
  simpa only [h] using hall cmd

end Sys2Proof.Machine

namespace Sys2Proof

open Machine

/-- Settles O3 (30_encoding.md R74): a round trip through the seven rows, and one through the 256 bytes. -/
theorem decodeAndEncodeAgree : Obligations.DecodeAndEncodeAgree :=
  ⟨fun i _ => decode_encode i, fun _ _ => encode_of_decode⟩

/-- Settles O4 (10_state.md R21, R26). -/
theorem stepRunsTheDecodedCommand : Obligations.StepRunsTheDecodedCommand := fun _ _ _ _ => step_command

/-- Settles O5 (60_exceptions.md R192, log 5). -/
theorem idleBlockKeepsItsState : Obligations.IdleBlockKeepsItsState := fun _ => step_idle

/-- Settles O6 (70_reset_and_hazards.md R200): the latch that a reset leaves is history, which no later result depends on
(10_state.md R28). -/
theorem resetClearsOnlyTheLatch : Obligations.ResetClearsOnlyTheLatch :=
  ⟨fun _ _ => step_reset, fun _ _ _ => step_resetDuring, fun s i => resultsIgnoreHistory i s .ok 0 [] s.issue⟩

end Sys2Proof

namespace Sys2Proof.Machine

/-- A run goes on from what its first step answers. -/
theorem run_succ_of_step {s t : State} (k : Nat) (h : step s = .next t) : core.run (k + 1) s = core.run k t := by
  have hstep : core.step s = .next t := h
  simp only [Host.Core.run, hstep]

/-- Everything an accepted move does: it latches a result that the configuration and the move alone determine, and leaves the moves
behind it. A reset's result is the empty success. -/
theorem accepted_move_latches (cfg : Config) {m : HostMove} (hm : m.accepted = true) :
    ∃ r : Result, ∀ (s : State) (rest : List HostMove), s.cfg = cfg → s.issue = m :: rest →
      ∃ p, step s = .next ((s.present p rest).latch r) := by
  cases m with
  | command p =>
    obtain ⟨i, hd⟩ := (decode_accepts_iff p.cmd).mpr hm
    refine ⟨commandResult i cfg p, fun s rest hcfg hi => ⟨p, ?_⟩⟩
    rw [step_command hi hd, exec_eq_latch, State.present_cfg, State.present_ports, hcfg]
  | reset => exact ⟨.ok [], fun s rest _ hi => ⟨s.ports, step_reset hi⟩⟩
  | resetDuring p => exact ⟨.ok [], fun s rest _ hi => ⟨p, step_resetDuring hi⟩⟩

/-- Accepted moves run to their end, one step each, and keep what every step keeps. -/
theorem run_accepted {moves : List HostMove} {s : State} (hi : s.issue = moves) (hm : ∀ m ∈ moves, m.accepted = true) :
    ∃ t, core.run moves.length s = .next t ∧ t.issue = [] ∧ t.cfg = s.cfg ∧ (s.Latched → t.Latched) := by
  induction moves generalizing s with
  | nil => exact ⟨s, rfl, hi, rfl, id⟩
  | cons m rest ih =>
    obtain ⟨hhead, htail⟩ := List.forall_mem_cons.mp hm
    obtain ⟨r, hr⟩ := accepted_move_latches s.cfg hhead
    obtain ⟨p, hstep⟩ := hr s rest rfl hi
    obtain ⟨t, hrun, hdone, hcfg, hlatched⟩ := ih (State.latch_issue (s.present p rest) r) htail
    exact ⟨t, (run_succ_of_step _ hstep).trans hrun, hdone, hcfg.trans (step_keeps_cfg hstep),
      fun hs => hlatched (step_keeps_latched hstep hs)⟩

/-- Two blocks with one configuration run accepted moves to one result. With no move left they must have it already; a first move
gives it to them, whatever their latches were. -/
theorem run_sameLatch {moves : List HostMove} {s u : State} (hcfg : s.cfg = u.cfg) (hs : s.issue = moves) (hu : u.issue = moves)
    (hnil : moves = [] → s.SameLatch u) (hm : ∀ m ∈ moves, m.accepted = true) :
    ∃ t v, core.run moves.length s = .next t ∧ core.run moves.length u = .next v ∧ t.SameLatch v := by
  induction moves generalizing s u with
  | nil => exact ⟨s, u, rfl, rfl, hnil rfl⟩
  | cons m rest ih =>
    obtain ⟨hhead, htail⟩ := List.forall_mem_cons.mp hm
    obtain ⟨r, hr⟩ := accepted_move_latches s.cfg hhead
    obtain ⟨p, hstep⟩ := hr s rest rfl hs
    obtain ⟨p', hstep'⟩ := hr u rest hcfg.symm hu
    have hcfg' := (step_keeps_cfg hstep).trans (hcfg.trans (step_keeps_cfg hstep').symm)
    obtain ⟨t, v, hrun, hrun', hsame⟩ :=
      ih hcfg' (State.latch_issue _ r) (State.latch_issue _ r) (fun _ => State.latch_sameLatch _ _ r) htail
    exact ⟨t, v, (run_succ_of_step _ hstep).trans hrun, (run_succ_of_step _ hstep').trans hrun', hsame⟩

end Sys2Proof.Machine

namespace Sys2Proof

open Machine

/-- Settles O36 (60_exceptions.md R192, 70_reset_and_hazards.md R211; logs 4 and 8), by induction over the moves. -/
theorem acceptedRunsComplete : Obligations.AcceptedRunsComplete := fun _ => run_accepted rfl

/-- Settles O37 (10_state.md R28, 60_exceptions.md R177; logs 4 and 8), by induction over the moves: the first one overwrites both
latches. -/
theorem runsForgetTheLatch : Obligations.RunsForgetTheLatch := by
  intro s u hcfg hissue hne hm
  rw [← hissue]
  exact run_sameLatch hcfg rfl hissue.symm (fun hnil => absurd hnil hne) hm

end Sys2Proof

namespace Sys2Proof.Machine

/-- BUILD.DATA reads its operands through these six only (30_encoding.md R75). -/
theorem buildDataResult_congr {cfg : Config} {p q : Ports} {c n sy c' n' sy' : Bool} (hlevels : p.levels = q.levels)
    (huniv : p.univ = q.univ) (hseq : p.sequence = q.sequence) (hcid : p.cidOr cfg c = q.cidOr cfg c')
    (hname : p.nameOr cfg n = q.nameOr cfg n') (hsync : p.syncOr cfg sy = q.syncOr cfg sy') :
    buildDataResult cfg c n sy p = buildDataResult cfg c' n' sy' q := by
  simp only [buildDataResult, Ports.readLevels_eq, hlevels, huniv, hseq, hcid, hname, hsync]

/-- BUILD.SYNC reads its operands through these three only (30_encoding.md R75). -/
theorem buildSyncResult_congr {cfg : Config} {p q : Ports} {c c' : Bool} (hseq : p.sequence = q.sequence)
    (hsync : p.syncUniverse = q.syncUniverse) (hcid : p.cidOr cfg c = q.cidOr cfg c') :
    buildSyncResult cfg c p = buildSyncResult cfg c' q := by
  simp only [buildSyncResult, hseq, hsync, hcid]

/-! An optional operand's port is read under its flag only (30_encoding.md R75). -/

theorem Ports.cidOr_congr {p q : Ports} (cfg : Config) {c : Bool} (h : c = true → p.cid = q.cid) :
    p.cidOr cfg c = q.cidOr cfg c := by
  cases c with
  | false => rfl
  | true => exact congrArg readWhole (h rfl)

theorem Ports.nameOr_congr {p q : Ports} (cfg : Config) {n : Bool} (h : n = true → p.name = q.name) :
    p.nameOr cfg n = q.nameOr cfg n := by
  cases n with
  | false => rfl
  | true => exact congrArg readWhole (h rfl)

theorem Ports.syncOr_congr {p q : Ports} (cfg : Config) {sy : Bool} (h : sy = true → p.syncUniverse = q.syncUniverse) :
    p.syncOr cfg sy = q.syncOr cfg sy := by
  cases sy with
  | false => rfl
  | true => exact h rfl

/-! An absent operand is its default supplied (45_packet_builder.md R154). -/

theorem Ports.cidOr_absent (cfg : Config) (p : Ports) :
    p.cidOr cfg false = { p with cid := cfg.defaultCid.toList }.cidOr cfg true :=
  (defaultCidBytes_eq cfg).trans (readWhole_eq _).symm

theorem Ports.nameOr_absent (cfg : Config) (p : Ports) :
    p.nameOr cfg false = { p with name := cfg.defaultName }.nameOr cfg true :=
  (readWhole_eq _).symm

theorem Ports.syncOr_absent (cfg : Config) (p : Ports) :
    p.syncOr cfg false = { p with syncUniverse := 0#16 }.syncOr cfg true :=
  cfg.fixed_defaultSyncUniverse

end Sys2Proof.Machine

namespace Sys2Proof

open Machine

/-- Settles O33 (10_state.md R21, 30_encoding.md R75): an operation's result is a function of the ports it reads, the optional ones
only under their flags. -/
theorem unreadPortsAreIgnored : Obligations.UnreadPortsAreIgnored := by
  refine fun s q => ⟨fun hlen => ?len, fun hlevels => ?dmp, fun hname hprio hseq hsync huniv hnested => ?frm,
    fun hseq hsync => ?syn, fun hcid hnested => ?root, fun c n sy hlevels huniv hseq hcid hname hsync => ?data,
    fun c hseq hsync hcid => ?sync⟩ <;> apply exec_sameLatch_of_result_eq
  case len => simp only [commandResult, lenEncResult, hlen]
  case dmp => simp only [commandResult, dmpEncResult, Ports.readLevels_eq, hlevels]
  case frm =>
    simp only [commandResult, frmEncResult, Ports.readName_eq, Ports.readNested_eq, hname, hprio, hseq, hsync, huniv, hnested]
  case syn => simp only [commandResult, synEncResult, hseq, hsync]
  case root => simp only [commandResult, rootEncResult, Ports.readCid_eq, Ports.readNested_eq, hcid, hnested]
  case data =>
    exact buildDataResult_congr hlevels huniv hseq (Ports.cidOr_congr _ hcid) (Ports.nameOr_congr _ hname)
      (Ports.syncOr_congr _ hsync)
  case sync => exact buildSyncResult_congr hseq hsync (Ports.cidOr_congr _ hcid)

/-- Settles O43 (45_packet_builder.md R154): the builders see no difference between an absent operand and its default. -/
theorem defaultsActAsSuppliedOperands : Obligations.DefaultsActAsSuppliedOperands := by
  refine fun s => ⟨Vector.length_toList, fun n sy => ?dataCid, fun c sy => ?dataName, fun c n => ?dataSync, ?syncCid⟩ <;>
    apply exec_sameLatch_of_result_eq
  case dataCid => exact buildDataResult_congr rfl rfl rfl (Ports.cidOr_absent _ _) rfl rfl
  case dataName => exact buildDataResult_congr rfl rfl rfl rfl (Ports.nameOr_absent _ _) rfl
  case dataSync => exact buildDataResult_congr rfl rfl rfl rfl rfl (Ports.syncOr_absent _ _)
  case syncCid => exact buildSyncResult_congr rfl rfl (Ports.cidOr_absent _ _)

end Sys2Proof

namespace Sys2Proof.Machine

/-- The counter's advance is addition modulo 256 (60_exceptions.md R186). -/
theorem nextSeq_eq_add_one (q : Byte) : nextSeq q = q + 1#8 := by
  rw [nextSeq]
  split
  · next h => rw [h]; rfl
  · rfl

/-- One advance and then `k` are `k + 1` (60_exceptions.md R186). -/
theorem nextSeq_add (q : Byte) (k : Nat) : nextSeq q + BitVec.ofNat 8 k = q + BitVec.ofNat 8 (k + 1) := by
  rw [nextSeq_eq_add_one, BitVec.add_assoc, ← BitVec.ofNat_add, Nat.add_comm]

/-- Byte 113 of a data packet is the sequence number (20_memory.md R44). -/
theorem byteAt_dataPacket_sequence (cfg : Config) {cid : Bytes} (name : Bytes) (u : Half) (l : Bytes) (q : Byte) (y : Half)
    (hc : cid.length = 16) : byteAt (Spec.dataPacket cfg cid name u l q y) 113 = q := by
  rw [← byteAt_drop _ 38 75, drop_dataPacket_framing hc, byteAt_frmBytes_sequence]

/-- Bytes 115 and 116 of a data packet are the universe (20_memory.md R44). -/
theorem wordAt_dataPacket_universe (cfg : Config) {cid : Bytes} (name : Bytes) (u : Half) (l : Bytes) (q : Byte) (y : Half)
    (hc : cid.length = 16) : wordAt (Spec.dataPacket cfg cid name u l q y) 115 = u.toNat := by
  rw [← wordAt_drop _ 38 77, drop_dataPacket_framing hc, wordAt_frmBytes_universe]

section Sending

variable (t : Transmitter) {levels : Bytes} (s : State)

/-- The command of a `send` on up to 512 levels leaves a packet with the Transmitter's counter and universe (60_exceptions.md R186,
R187). -/
theorem issueCall_send_of_le (h : levels.length ≤ 512) :
    ∃ b, issueCall (t.call levels) s = .next b ∧ b.status = .ok ∧ byteAt b.out 113 = t.seq ∧ wordAt b.out 115 = t.univ.toNat := by
  have hresult : commandResult (t.call levels).instr s.cfg (t.call levels).ports =
      .ok (Spec.dataPacket s.cfg s.cfg.defaultCid.toList s.cfg.defaultName t.univ levels t.seq 0#16) :=
    buildDataResult_of_le (s := s.present (t.call levels).ports []) h nofun
  have hissue := issueCall_eq_latch (t.call levels) s
  rw [hresult, State.latch_ok] at hissue
  exact ⟨_, hissue, rfl, byteAt_dataPacket_sequence _ _ _ _ _ _ Vector.length_toList,
    wordAt_dataPacket_universe _ _ _ _ _ _ Vector.length_toList⟩

/-- On more it leaves `E_LEVELS` (60_exceptions.md R187). -/
theorem issueCall_send_of_gt (h : 512 < levels.length) :
    ∃ b, issueCall (t.call levels) s = .next b ∧ b.status = .eLevels := by
  have hresult : commandResult (t.call levels).instr s.cfg (t.call levels).ports = .err .eLevels :=
    buildDataResult_of_gt (s := s.present (t.call levels).ports []) h
  exact ⟨_, issueCall_eq_latch (t.call levels) s, by rw [hresult]; rfl⟩

/-- A `send` that the block and the transport let through writes one datagram and advances the counter (60_exceptions.md R187). -/
theorem send_of_le (h : levels.length ≤ 512) :
    ∃ b d, t.send levels none s = .next ⟨{ t with seq := nextSeq t.seq }, b, .sent d⟩ ∧ d.address = t.address ∧
      d.port = t.port ∧ byteAt d.payload 113 = t.seq ∧ wordAt d.payload 115 = t.univ.toNat := by
  obtain ⟨b, hissue, hok, hseq, huniv⟩ := issueCall_send_of_le t s h
  exact ⟨b, ⟨t.address, t.port, b.out⟩, by simp [Transmitter.send, hissue, hok], rfl, rfl, hseq, huniv⟩

end Sending

/-- Successive sends go on with the Transmitter and the block that the first one left (60_exceptions.md R190). -/
theorem sends_cons {levels : Bytes} {failure : Option TransportError} {rest : List (Bytes × Option TransportError)}
    {t t' : Transmitter} {s s' : State} {r : Sent} {reports : List SendReport} (hr : t.send levels failure s = .next r)
    (hrest : Transmitter.sends rest r.host r.block = .next (t', s', reports)) :
    Transmitter.sends ((levels, failure) :: rest) t s = .next (t', s', r.report :: reports) := by
  simp [Transmitter.sends, hr, hrest]

end Sys2Proof.Machine

namespace Sys2Proof

open Machine

/-- Settles O38 (60_exceptions.md R186, R187; single writer: log 15), by induction over the batch: packet `j + 1` of a batch is
packet `j` of what follows its first send, which starts one count later. -/
theorem sequenceNumbersCountTheSends : Obligations.SequenceNumbersCountTheSends := by
  intro batch
  induction batch with
  | nil => exact fun t s _ => ⟨t, s, [], rfl, by simp, rfl, nofun⟩
  | cons levels batch ih =>
    intro t s hall
    obtain ⟨hhead, htail⟩ := List.forall_mem_cons.mp hall
    obtain ⟨b, d, hsend, haddr, hport, hseq, huniv⟩ := send_of_le t s hhead
    obtain ⟨t', s', reports, hsends, ht', hlen, hsent⟩ := ih { t with seq := nextSeq t.seq } b htail
    refine ⟨t', s', .sent d :: reports, sends_cons hsend hsends, ?counter, congrArg (· + 1) hlen, fun j hj => ?packet⟩
    case counter => rw [ht', nextSeq_add, List.length_cons]
    case packet =>
      cases j with
      | zero => exact ⟨d, rfl, haddr, hport, by simpa using hseq, huniv⟩
      | succ j =>
        obtain ⟨d', hd', haddr', hport', hseq', huniv'⟩ := hsent j (Nat.lt_of_succ_lt_succ hj)
        exact ⟨d', hd', haddr', hport', hseq'.trans (nextSeq_add t.seq j), huniv'⟩

/-- Settles O39 (60_exceptions.md R187; log 15): the two ways out of a `send` before the counter's advance. -/
theorem failedSendKeepsTheCounter : Obligations.FailedSendKeepsTheCounter := by
  refine ⟨fun t levels failure s hgt => ?invalid, fun t levels e s hle => ?transport⟩
  case invalid =>
    obtain ⟨b, hissue, hstatus⟩ := issueCall_send_of_gt t s hgt
    exact ⟨⟨t, b, .invalid .eLevels⟩, by simp [Transmitter.send, hissue, hstatus], rfl, rfl⟩
  case transport =>
    obtain ⟨b, hissue, hok, -, -⟩ := issueCall_send_of_le t s hle
    exact ⟨⟨t, b, .transport e⟩, by simp [Transmitter.send, hissue, hok], rfl, rfl⟩

/-- Settles O41 (60_exceptions.md R185, 70_reset_and_hazards.md R203): the fields that construction sets. -/
theorem freshTransmitter : Obligations.FreshTransmitter := fun _ _ _ _ _ =>
  ⟨⟨_, rfl, rfl, rfl, rfl, rfl, rfl, rfl⟩, fun _ => rfl⟩

end Sys2Proof
